-- ==== Sys2Proof/Word.lean ====
section
/-! DEFINITION. The plain words of the AQ816: the bytes and tags its frames carry, and the numbers by which
its aisles, cranes, queues and records are named (spec/00_scope.md, "Numbering and units"). -/

namespace Sys2Proof

/-- One byte of a frame (section 11.1). -/
abbrev Byte := BitVec 8

/-- A 32-bit pallet label number; 0 means no tag and no check (section "Numbering and units"). -/
abbrev Tag := BitVec 32

/-- The two tag bytes of a frame (section 11.8); on the host link the host chooses them (R187). -/
abbrev FrameTag := BitVec 16

/-- Aisles are numbered 0–7. -/
abbrev AisleNo := Fin 8

/-- Cranes are numbered 0–15; crane 2a is FRONT or SOLE in aisle a, crane 2a+1 is REAR or ABSENT. -/
abbrev CraneNo := Fin 16

/-- Job queues are numbered 0–15. -/
abbrev QueueNo := Fin 16

/-- Job ids: host 1–2,147,483,647, internal 2,147,483,648–4,294,967,295 (R20). -/
abbrev JobId := Nat

/-- Run ids: 1–65,535 (R136). -/
abbrev RunId := Nat

/-- Group ids: 1–65,535 (R158). -/
abbrev GroupId := Nat

/-- A point of the millisecond timer, or a duration in milliseconds. -/
abbrev Ms := Nat

/-- A rail position (bay, level) (R44). -/
abbrev Point := Nat × Nat

/-- A span of bays (lo, hi) (R89). -/
abbrev Span := Nat × Nat

end Sys2Proof
end

