-- ==== Sys2Proof/Syntax.lean ====
section
/-! DEFINITION. The commands of the AQ816: one constructor of `Instr` for each row of spec/opcode_table.json, with
what the event carries. A command is a request TAKEN from the host link, a message of a crane or of the conveyor
controller, a timer's expiry, a pin event, or the record-free notice of R142.

The spec gives byte layouts for SUBMIT-JOB, SUBMIT-RUN and the host link frame only (section 11.8); these commands
carry their bytes. Every other request is described by its named fields, so its command carries those fields, as
`some` fields for a body that fits its kind and as `none` for one that does not (refused MALFORMED). A number is
carried as it arrived, in or out of its range; a field that takes a named value is `none` when it names none. -/

namespace Sys2Proof

/-- Sides of an aisle (R1). -/
inductive Side where
  | left | right
deriving DecidableEq, Repr

/-- Depths of a lane (R1). -/
inductive Depth where
  | near | far
deriving DecidableEq, Repr

/-- A location address as a request carries it: five bytes, not yet checked by R1 (section 11.8). -/
structure RawLoc where
  aisle : Nat
  side : Nat
  bay : Nat
  level : Nat
  depth : Nat
deriving DecidableEq, Repr

/-- The five occupancy names of R2. -/
inductive OccName where
  | unknown | empty | full | inbound | outbound
deriving DecidableEq, Repr

/-- One entry of LOAD-LOCATIONS (R16). -/
structure LoadEntry where
  loc : RawLoc
  occ : Option OccName
  tag : Tag
  locked : Bool
deriving DecidableEq, Repr

/-- The body of LOAD-LOCATIONS: the entry count it declares and the entries its length holds (R16). -/
structure LoadReq where
  count : Nat
  entries : List LoadEntry
deriving DecidableEq, Repr

/-- The body of SET-LOCATION (R17). -/
structure SetLocReq where
  loc : RawLoc
  occ : Option OccName
  tag : Tag
deriving DecidableEq, Repr

/-- The body of QUERY-LOCATION (R193). -/
structure QueryLocReq where
  first : RawLoc
  count : Nat
deriving DecidableEq, Repr

/-- The body of SET-URGENCY (R31). -/
structure UrgencyReq where
  id : Nat
  urgency : Nat
deriving DecidableEq, Repr

/-- The body of END-RUN (R145). -/
structure EndRunReq where
  id : Nat
  withdraw : Bool
deriving DecidableEq, Repr

/-- The fields of SET-PROFILE as written, before the checks and the clamping of R172. -/
structure RawProfile where
  bays : Nat
  levels : Nat
  doubleDeep : Option Bool
  craneCount : Nat
  bayPitch : Nat
  levelPitch : Nat
  vx : Nat
  ax : Nat
  vy : Nat
  ay : Nat
  forkNear : Nat
  forkFar : Nat
  separation : Nat
  overrunPercent : Nat
  overrunMargin : Nat
  refInterval : Nat
  driftLimit : Nat
  parkDelay : Nat
  parkFront : Nat
  parkRear : Nat
  agingStep : Nat
  infeedCap : Nat
  outfeedCap : Nat
  provingAllowance : Nat
deriving DecidableEq, Repr

/-- The body of SET-PROFILE (R172). -/
structure ProfileReq where
  aisle : Nat
  profile : RawProfile
deriving DecidableEq, Repr

/-- The body of SET-CEILING (R112). -/
structure CeilingReq where
  aisle : Nat
  value : Nat
deriving DecidableEq, Repr

/-- The four lists of a dispatch schedule (R107, R117). -/
inductive ListName where
  | wheel | priority | firstRotation | secondRotation
deriving DecidableEq, Repr

/-- Kind filters of a schedule entry (R107). -/
inductive KindFilter where
  | any | storeOnly | retrieveOnly
deriving DecidableEq, Repr

/-- Crane filters of a schedule entry (R107). -/
inductive CraneFilter where
  | either | front | rear
deriving DecidableEq, Repr

/-- The queue field of an entry as EDIT-SCHEDULE carries it: a number, or EMPTY (R117). -/
inductive RawQueue where
  | number (n : Nat) | empty
deriving DecidableEq, Repr

/-- An entry as EDIT-SCHEDULE carries it (R117). -/
structure RawEntry where
  queue : RawQueue
  kind : Option KindFilter
  crane : Option CraneFilter
deriving DecidableEq, Repr

/-- The body of EDIT-SCHEDULE: `declared` is the number of entries it declares, `entries` those its length
holds (R117). -/
structure EditReq where
  aisle : Nat
  list : Option ListName
  first : Nat
  declared : Nat
  entries : List RawEntry
  count : Option Nat
deriving DecidableEq, Repr

/-- The body of OPEN-GROUP (R158). -/
structure GroupReq where
  id : Nat
  count : Nat
  window : Nat
deriving DecidableEq, Repr

/-- Why a crane link frame is discarded without answer (R58). -/
inductive CraneDiscard where
  /-- its check fails -/
  | badCheck
  /-- its length gives a body of more than 64 bytes -/
  | oversize
  /-- any frame on the link of an ABSENT crane (R55) -/
  | absentCrane
deriving DecidableEq, Repr

/-- Why a station link frame is discarded (R150). -/
inductive StationDiscard where
  /-- its check fails -/
  | badCheck
  /-- its length gives a body of more than 64 bytes -/
  | oversize
  /-- it passed its check but has an unknown kind, a wrong body length, or an aisle of 8 or above; `aisle` is the
  aisle field when the frame gave one -/
  | malformed (aisle : Option Nat)
deriving DecidableEq, Repr

/-- The commands: one constructor per row of spec/opcode_table.json, in the table's order. -/
inductive Instr where
  /-- HARDWARE_RESET (R195) -/
  | hardwareReset
  /-- STATION_LINK_UP (R151) -/
  | stationLinkUp
  /-- HOST_FRAME_RECEIVED (R187, R188): the bytes the host link delivers -/
  | hostFrameReceived (bytes : List Byte)
  /-- FRAME_TRANSMISSION_END (R190): the frame on the output line has been sent to its end -/
  | frameTransmissionEnd
  /-- UNKNOWN_KIND (R189): the taken frame's kind names no request -/
  | unknownKind (kind : Byte) (tag : FrameTag)
  /-- SUBMIT_JOB (R22, R23): the body of section 11.8 -/
  | submitJob (tag : FrameTag) (body : List Byte)
  /-- SET_URGENCY (R31) -/
  | setUrgency (tag : FrameTag) (req : Option UrgencyReq)
  /-- CANCEL_JOB (R35) -/
  | cancelJob (tag : FrameTag) (id : Option Nat)
  /-- QUERY_JOB (R42) -/
  | queryJob (tag : FrameTag) (id : Option Nat)
  /-- SUBMIT_RUN (R137, R138): the body of section 11.8 -/
  | submitRun (tag : FrameTag) (body : List Byte)
  /-- END_RUN (R145) -/
  | endRun (tag : FrameTag) (req : Option EndRunReq)
  /-- QUERY_RUN (R148) -/
  | queryRun (tag : FrameTag) (id : Option Nat)
  /-- LOAD_LOCATIONS (R16) -/
  | loadLocations (tag : FrameTag) (req : LoadReq)
  /-- SET_LOCATION (R17) -/
  | setLocation (tag : FrameTag) (req : Option SetLocReq)
  /-- LOCK_LOCATION (R18) -/
  | lockLocation (tag : FrameTag) (loc : Option RawLoc)
  /-- UNLOCK_LOCATION (R18) -/
  | unlockLocation (tag : FrameTag) (loc : Option RawLoc)
  /-- QUERY_LOCATION (R193) -/
  | queryLocation (tag : FrameTag) (req : Option QueryLocReq)
  /-- SET_PROFILE (R172, R173) -/
  | setProfile (tag : FrameTag) (req : Option ProfileReq)
  /-- OPEN_AISLE (R174) -/
  | openAisle (tag : FrameTag) (aisle : Option Nat)
  /-- CLOSE_AISLE (R180) -/
  | closeAisle (tag : FrameTag) (aisle : Option Nat)
  /-- LOCKOUT_AISLE (R182) -/
  | lockoutAisle (tag : FrameTag) (aisle : Option Nat)
  /-- RELEASE_AISLE (R184) -/
  | releaseAisle (tag : FrameTag) (aisle : Option Nat)
  /-- SET_CEILING (R112) -/
  | setCeiling (tag : FrameTag) (req : Option CeilingReq)
  /-- EDIT_SCHEDULE (R117) -/
  | editSchedule (tag : FrameTag) (req : Option EditReq)
  /-- COMMIT_SCHEDULE (R118) -/
  | commitSchedule (tag : FrameTag) (aisle : Option Nat)
  /-- QUERY_AISLE (R193) -/
  | queryAisle (tag : FrameTag) (aisle : Option Nat)
  /-- CLEAR_CRANE (R80) -/
  | clearCrane (tag : FrameTag) (crane : Option Nat)
  /-- QUERY_CRANE (R193) -/
  | queryCrane (tag : FrameTag) (crane : Option Nat)
  /-- QUERY_STATION (R168) -/
  | queryStation (tag : FrameTag) (aisle : Option Nat)
  /-- OPEN_GROUP (R158) -/
  | openGroup (tag : FrameTag) (req : Option GroupReq)
  /-- GROUP_CANCEL (R163) -/
  | groupCancel (tag : FrameTag) (id : Option Nat)
  /-- QUERY_GROUP (R169) -/
  | queryGroup (tag : FrameTag) (id : Option Nat)
  /-- IDENTIFY (R193) -/
  | identify (tag : FrameTag) (body : List Byte)
  /-- RESTART (R194) -/
  | restart (tag : FrameTag) (body : List Byte)
  /-- AT_SOURCE (R63) -/
  | atSource (crane : CraneNo)
  /-- FETCHED_OK (R64): `tag` is 0 when the crane read no tag -/
  | fetchedOk (crane : CraneNo) (tag : Tag)
  /-- FETCHED_EMPTY (R70) -/
  | fetchedEmpty (crane : CraneNo)
  /-- AT_DESTINATION (R65) -/
  | atDestination (crane : CraneNo)
  /-- PLACED_OK (R66) -/
  | placedOk (crane : CraneNo)
  /-- PLACED_OCCUPIED (R77, R79) -/
  | placedOccupied (crane : CraneNo)
  /-- MOVED (R95, R86) -/
  | moved (crane : CraneNo)
  /-- REFERENCED (R83, R177, R185): drift in mm, whether a load is sensed, the tag read -/
  | referenced (crane : CraneNo) (drift : Nat) (sensed : Bool) (tag : Tag)
  /-- STOPPED (R61) -/
  | stopped (crane : CraneNo)
  /-- REDIRECT_TAKEN (R68) -/
  | redirectTaken (crane : CraneNo)
  /-- REDIRECT_LATE (R68) -/
  | redirectLate (crane : CraneNo)
  /-- ABORT_TAKEN (R69): the reported stop position -/
  | abortTaken (crane : CraneNo) (bay : Nat) (level : Nat)
  /-- ABORT_LATE (R69) -/
  | abortLate (crane : CraneNo)
  /-- ECHO (R176): the frame's tag field and its body -/
  | echo (crane : CraneNo) (frame : Nat) (body : List Byte)
  /-- CRANE_FAULT (R71): the crane's own fault code -/
  | craneFault (crane : CraneNo) (code : Nat)
  /-- MISFIT_REPORT (R58, R60): an unknown kind, or a body length that does not match its kind -/
  | misfitReport (crane : CraneNo)
  /-- CRANE_FRAME_DISCARDED (R55, R58) -/
  | craneFrameDiscarded (crane : CraneNo) (why : CraneDiscard)
  /-- MOTION_DEADLINE_EXPIRY (R67) -/
  | motionDeadlineExpiry (crane : CraneNo)
  /-- STOP_ANSWER_TIMEOUT (R61) -/
  | stopAnswerTimeout (crane : CraneNo)
  /-- ECHO_DEADLINE_EXPIRY (R176) -/
  | echoDeadlineExpiry (crane : CraneNo)
  /-- AGING_EXPIRY (R32), of the job named -/
  | agingExpiry (id : JobId)
  /-- PARK_EXPIRY (R86) -/
  | parkExpiry (crane : CraneNo)
  /-- LOAD_ARRIVED (R152): the aisle byte, the tag, the last-load mark -/
  | loadArrived (aisle : Nat) (tag : Tag) (mark : Bool)
  /-- LOAD_DEPARTED (R166, R167): the aisle byte -/
  | loadDeparted (aisle : Nat)
  /-- COLLECTOR_READY (R164) -/
  | collectorReady
  /-- STATION_FRAME_DISCARDED (R150) -/
  | stationFrameDiscarded (why : StationDiscard)
  /-- RECORD_FREE_NOTICE (R142) -/
  | recordFreeNotice
deriving DecidableEq, Repr

end Sys2Proof
end

