-- ==== Sys2Proof/Config.lean ====
section
/-! DEFINITION. The fixed figures of the AQ816: its capacities (spec/00_scope.md, "Main characteristics"; R193),
its fixed times, and its saturation values. The spec fixes every one of them. The free values of the model, kind
numbers and the bodies of the frames that the part sends, stand beside those frames in Machine/HostLink.lean (log entry 29). -/

namespace Sys2Proof.Config

/-- R19: the job table holds at most 1,024 live jobs. -/
def maxJobs : Nat := 1024
/-- R136: RNU holds 32 run records. -/
def maxRuns : Nat := 32
/-- R158: SQU holds up to 16 group records. -/
def maxGroups : Nat := 16
/-- R158: a group has 1–64 positions. -/
def maxPositions : Nat := 64
/-- R188: the request input buffer holds up to 4 received frames. -/
def inputFrames : Nat := 4
/-- R190: the reply queue is a FIFO of 32 entries. -/
def replyEntries : Nat := 32
/-- R191: the report queue is a FIFO of up to 256 entries. -/
def reportEntries : Nat := 256
/-- R191: the lost-report count is held at 65,535. -/
def maxLost : Nat := 65535
/-- R192: the dispatch pause is raised at 96 entries or more. -/
def pauseRaise : Nat := 96
/-- R192: the dispatch pause is dropped at 64 entries or fewer. -/
def pauseDrop : Nat := 64
/-- R187: the largest body of a host link frame. -/
def hostBody : Nat := 1024
/-- R58, R150: the largest body of a crane link or station link frame. -/
def lineBody : Nat := 64
/-- R193: locations per aisle in the largest case. -/
def locationsPerAisle : Nat := 9216
/-- R193: the part code that IDENTIFY answers. -/
def partCode : Nat := 0x0816
/-- R193: the revision number that IDENTIFY answers. -/
def revision : Nat := 1

/-- R20: the first internal job id. -/
def firstInternalId : Nat := 2147483648
/-- R20, R21: the last internal job id, and the last submit stamp. -/
def lastId : Nat := 4294967295
/-- R21: submit stamps are compared modulo 4,294,967,296. -/
def stampModulus : Nat := 4294967296
/-- R21: the largest distance at which one stamp is older than another. -/
def stampHalf : Nat := 2147483647

/-- R47: every estimate saturates at 600,000 ms. -/
def estimateCap : Ms := 600000
/-- R51: a motion limit above 900,000 ms is returned as 900,000. -/
def limitCap : Ms := 900000
/-- R61: the stop answer time. -/
def stopAnswerTime : Ms := 5000
/-- R175: the echo time of a proving frame. -/
def echoTime : Ms := 200
/-- R175: the number of PROBE frames. -/
def probeFrames : Nat := 64
/-- R175: the body length of a PROBE frame. -/
def probeBody : Nat := 32
/-- R81: a count of interval + 8 is FORCED. -/
def forcedExcess : Nat := 8
/-- R33: a bump count lies in 0–3, and a job with bump count 3 is never displaced. -/
def maxBumps : Nat := 3

end Sys2Proof.Config
end

