-- ==== Sys2Proof/Machine/State.lean ====
section
/-! DEFINITION. The state of the AQ816 as plain data, block by block (spec/00_scope.md, "Block overview"): the host link
interface, the job table, the run unit, the location table, the aisle controllers, the crane channels, the station unit
and the sequence unit; the queue of commands that wait; and the values after a hardware reset. -/

namespace Sys2Proof.Machine

/-! ## Storage locations (LTB) -/

/-- A location address that names an existing location (R1). -/
structure Loc where
  aisle : AisleNo
  side : Side
  bay : Nat
  level : Nat
  depth : Depth
deriving DecidableEq, Repr

/-- An end of a job, or a crane's standing point: a location, or a station of the aisle concerned. -/
inductive Place where
  | loc (l : Loc)
  /-- the rear infeed station -/
  | infeed
  /-- the front outfeed station -/
  | outfeed
deriving DecidableEq, Repr

/-- Occupancy with the tag and the holder that R2 gives it: the combinations of R2's table and no others. -/
inductive Occ where
  | unknown
  | empty
  | full (tag : Tag)
  | inbound (tag : Tag) (holder : JobId)
  | outbound (tag : Tag) (holder : JobId)
deriving DecidableEq, Repr

/-- A location record (R2). The default is the record R3 creates: UNKNOWN, unlocked. -/
structure LocRec where
  occ : Occ := .unknown
  locked : Bool := false
deriving DecidableEq, Repr

/-- The location table: records in address order, none equal to the default record, which an existing location
that is not listed holds (log entry 5). -/
abbrev LocTable := List (Loc × LocRec)

/-! ## Jobs (JTB) -/

/-- Job kinds (section 2.1.1). -/
inductive JobKind where
  | store | retrieve | relocate | clearance
deriving DecidableEq, Repr

/-- The phases a job can be stranded in (section 2.1.1). -/
inductive Phase where
  | fetch | haul | place
deriving DecidableEq, Repr

/-- Job states (section 2.1.1). `ended` is the model's own: a job between steps 1 and 8 of R40, where "the job's state
is no longer any of the eight states"; no job is in it between two events. -/
inductive JobState where
  | waiting | ready | promised | lead | fetch | haul | place
  | stranded (phase : Phase)
  | ended
deriving DecidableEq, Repr

/-- Wait reasons (R26). -/
inductive Reason where
  | load | group | depth | clearance | noPlace | stationBlocked
deriving DecidableEq, Repr

/-- A job's wait set. -/
structure Waits where
  load : Bool := false
  group : Bool := false
  depth : Bool := false
  clearance : Bool := false
  noPlace : Bool := false
  stationBlocked : Bool := false
deriving DecidableEq, Repr

/-- The cancel request of a job (section 2.1.1). -/
inductive CancelBy where
  | host | groupCancelled
deriving DecidableEq, Repr

/-- Outcomes of a job (R40). -/
inductive JobOutcome where
  | completed | failed | cancelled
deriving DecidableEq, Repr

/-- Causes of a FAILED or CANCELLED end (R41). -/
inductive JobCause where
  | emptySource | tagMismatch | loadLost | host | groupCancelled | strandedCancel
deriving DecidableEq, Repr

/-- A job record (section 2.1.1). The stranded phase is carried by the state; a field that is not always present is an
`Option`. -/
structure Job where
  id : JobId
  kind : JobKind
  aisle : AisleNo
  source : Place
  dest : Option Place
  expTag : Tag
  urgency : Nat
  queue : QueueNo
  group : Option (GroupId × Nat)
  run : Option RunId
  parent : Option JobId
  state : JobState
  waits : Waits
  crane : Option CraneNo
  bump : Nat
  stamp : Nat
  readySince : Option Ms
  tagRead : Option Tag
  cancelReq : Option CancelBy
  noteOccupied : Bool
  noteLate : Bool
deriving DecidableEq, Repr

/-- The job table's block. -/
structure Jtb where
  /-- the live job records (R19) -/
  jobs : List Job
  /-- the sixteen job queues (R34) -/
  queues : Vector (List JobId) 16
  /-- the submit-stamp counter (R21) -/
  stamp : Nat
  /-- the internal id counter (R20) -/
  internalId : Nat
  /-- the clearance wait list (R124) -/
  clearWait : List JobId
  /-- record-free notices given to RNU and not yet taken (R142) -/
  freeNotices : Nat
  /-- the model's own: live jobs whose load was found with a wrong tag (R28: "FAILED TAG-MISMATCH after a mismatch") -/
  mismatched : List JobId
  /-- the model's own: live jobs whose wrong-tag load met PLACED OCCUPIED at a place chosen for it (R134) -/
  targetOccupied : List JobId
  /-- the model's own: live jobs whose infeed head was removed at a resolution that left them STRANDED (R84, R186) -/
  headTaken : List JobId
deriving DecidableEq, Repr

/-! ## Runs (RNU) -/

/-- Kinds of a run (R136). -/
inductive RunKind where
  | store | retrieve
deriving DecidableEq, Repr

/-- Steps of a run (R136). -/
inductive RunStep where
  | bay | level
deriving DecidableEq, Repr

/-- End causes of a run (R144). -/
inductive RunCause where
  | countedOut | edge | request | mark | fault
deriving DecidableEq, Repr

/-- The group link of a run (R136). -/
structure RunGroup where
  id : GroupId
  next : Nat
  last : Nat
deriving DecidableEq, Repr

/-- A run record (R136). A run is stopped exactly when its end cause is present, so `cause` holds both fields. -/
structure Run where
  id : RunId
  kind : RunKind
  aisle : AisleNo
  pointer : Option Loc
  step : RunStep
  lane : Bool
  count : Nat
  toSpawn : Nat
  live : Nat
  window : Nat
  urgency : Nat
  queue : QueueNo
  group : Option RunGroup
  stopOnFailure : Bool
  cause : Option RunCause
  completed : Nat
  failed : Nat
  skipped : Nat
deriving DecidableEq, Repr

/-- The run unit's block: live runs in admission order and the spawn rotation marker (R136). -/
structure Rnu where
  runs : List Run
  marker : Option RunId
deriving DecidableEq, Repr

/-! ## Aisles (AC0–AC7) -/

/-- Aisle states (R171). -/
inductive AisleState where
  | closed | starting | opened | closing | lockout
deriving DecidableEq, Repr

/-- Start kinds and resume modes (R171). -/
inductive StartKind where
  | full | release
deriving DecidableEq, Repr

/-- Start phases (R171). -/
inductive StartPhase where
  | proving | referencing
deriving DecidableEq, Repr

/-- The start fields of an aisle record, present in STARTING (R171). -/
structure Start where
  kind : StartKind
  phase : StartPhase
  /-- start runs of crane 2a -/
  runsFront : Nat
  /-- start runs of crane 2a+1 -/
  runsRear : Nat
deriving DecidableEq, Repr

/-- An aisle profile, with its values as clamped (R172). -/
structure Profile where
  bays : Nat
  levels : Nat
  doubleDeep : Bool
  craneCount : Nat
  bayPitch : Nat
  levelPitch : Nat
  vx : Nat
  ax : Nat
  vy : Nat
  ay : Nat
  forkNear : Ms
  forkFar : Ms
  separation : Nat
  overrunPercent : Nat
  overrunMargin : Ms
  refInterval : Nat
  driftLimit : Nat
  /-- in seconds -/
  parkDelay : Nat
  parkFront : Nat
  parkRear : Nat
  /-- in seconds -/
  agingStep : Nat
  infeedCap : Nat
  outfeedCap : Nat
  provingAllowance : Nat
deriving DecidableEq, Repr

/-- A schedule entry (R107); `none` in the queue field is EMPTY. -/
structure Entry where
  queue : Option QueueNo := none
  kind : KindFilter := .any
  crane : CraneFilter := .either
deriving DecidableEq, Repr

/-- One list of a schedule copy with its valid-entry count (R107). -/
structure SchedList (n : Nat) where
  entries : Vector Entry n
  count : Nat
deriving DecidableEq, Repr

/-- One copy of a dispatch schedule (R107). -/
structure Schedule where
  wheel : SchedList 64
  priority : SchedList 16
  rot1 : SchedList 16
  rot2 : SchedList 16
deriving DecidableEq, Repr

/-- An aisle record (R171) with its dispatch schedule (R107). -/
structure Aisle where
  state : AisleState
  start : Option Start
  resume : Option StartKind
  profile : Option Profile
  ceiling : Nat
  active : Schedule
  pendingCopy : Schedule
  wheelPtr : Nat
  rot1Ptr : Nat
  rot2Ptr : Nat
  marked : Bool
deriving DecidableEq, Repr

/-! ## Cranes (CC0–CC15) -/

/-- Crane roles (R55). -/
inductive Role where
  | front | rear | sole | absent
deriving DecidableEq, Repr

/-- The eleven crane states (R56). -/
inductive CraneState where
  | offline | idle | hold | lead | fetch | haul | place | move | reference | stopped | faulted
deriving DecidableEq, Repr

/-- The outstanding order of a crane (R55). -/
inductive OutOrder where
  | none | redirect | abort
deriving DecidableEq, Repr

/-- Place legs (R55). -/
inductive Leg where
  | travelling | atPlace | waiting
deriving DecidableEq, Repr

/-- Move purposes (R55). -/
inductive Purpose where
  | yielding | park
deriving DecidableEq, Repr

/-- Load on board (R55): NONE, a tag (0 = load with unread tag), UNKNOWN. -/
inductive Load where
  | none | tag (t : Tag) | unknown
deriving DecidableEq, Repr

/-- Reference status (R81). -/
inductive RefStatus where
  | current | due | forced
deriving DecidableEq, Repr

/-- Link status (R55). -/
inductive Link where
  | unproven | proving | proven | failed
deriving DecidableEq, Repr

/-- Fault causes (R55). -/
inductive FaultCause where
  | protocol | overrun | drift | unexpectedLoad | noPlace
  /-- the crane's own fault code -/
  | code (n : Nat)
deriving DecidableEq, Repr

/-- A crane record (R55); its number is its index, and its aisle is the number divided by 2. -/
structure Crane where
  role : Role
  state : CraneState
  pos : Option Point
  standing : Option Place
  span : Option Span
  job : Option JobId
  promised : Option JobId
  order : OutOrder
  leg : Option Leg
  move : Option (Purpose × Nat)
  carryPending : Bool
  load : Load
  cycles : Nat
  refStatus : RefStatus
  link : Link
  motionDeadline : Option Ms
  stopDeadline : Option Ms
  idleSince : Option Ms
  fault : Option FaultCause
deriving DecidableEq, Repr

/-- The proving pattern generator and checker of a crane channel (R175). -/
structure Proving where
  errors : Nat
  frame : Option Nat
  echoDeadline : Option Ms
deriving DecidableEq, Repr

/-! ## Stations, groups and the collector (STU, SQU) -/

/-- A load at an infeed (R152). -/
structure InLoad where
  tag : Tag
  mark : Bool
deriving DecidableEq, Repr

/-- A load at an outfeed (R156). -/
structure OutLoad where
  tag : Tag
  member : Option (GroupId × Nat)
deriving DecidableEq, Repr

/-- The stations of one aisle: the two FIFOs, head first, the jobs that hold outfeed reservations (their number is the
reservation count, R156), and the releasing mark (R164). -/
structure Station where
  infeed : List InLoad
  outfeed : List OutLoad
  reserved : List JobId
  releasing : Bool
deriving DecidableEq, Repr

/-- Collector states (R164). -/
inductive CollectorState where
  | notReady | ready | busy
deriving DecidableEq, Repr

/-- The station unit's block. -/
structure Stu where
  stations : Vector Station 8
  collector : CollectorState
  rotation : AisleNo
  /-- whether the station link has come up since the hardware reset (R151) -/
  linkUp : Bool
deriving DecidableEq, Repr

/-- A position of a sequence group with the fields its status carries (R158). -/
inductive Position where
  | free
  | known (holder : Option JobId) (aisle : AisleNo) (placed : Bool)
  | spawnPending (run : RunId)
  | void
  | released
deriving DecidableEq, Repr

/-- A sequence-group record (R158). Its state is ACTIVE exactly when it is the first of the opening order. -/
structure Group where
  id : GroupId
  count : Nat
  window : Nat
  next : Nat
  /-- positions 1..count, position k at index k − 1 -/
  positions : List Position
deriving DecidableEq, Repr

/-! ## Host link messages (HLI) -/

/-- The requests of the host link. -/
inductive RequestKind where
  | submitJob | setUrgency | cancelJob | queryJob | submitRun | endRun | queryRun | loadLocations | setLocation
  | lockLocation | unlockLocation | queryLocation | setProfile | openAisle | closeAisle | lockoutAisle | releaseAisle
  | setCeiling | editSchedule | commitSchedule | queryAisle | clearCrane | queryCrane | queryStation | openGroup
  | groupCancel | queryGroup | identify | restart
deriving DecidableEq, Repr

/-- The kind a reply carries: its request's (R189). -/
inductive ReplyKind where
  | request (k : RequestKind)
  | other (kind : Byte)
deriving DecidableEq, Repr

/-- Results of a reply (section 11.7). -/
inductive Result where
  | done | cancelled | pending | tooLate
  | malformed | unknownKind | outOfRange | duplicateId | tableFull | noSuchId | wrongState | locationConflict
  | tagConflict | unreachable | groupConflict | busy | noProfile
deriving DecidableEq, Repr

/-- The capacities IDENTIFY answers, in the order of R193. -/
structure Identity where
  partCode : Nat
  revision : Nat
  aisles : Nat
  cranes : Nat
  jobs : Nat
  queues : Nat
  runs : Nat
  groups : Nat
  positions : Nat
  locationsPerAisle : Nat
  inputBuffer : Nat
  replyQueue : Nat
  reportQueue : Nat
  hostBody : Nat
  lineBody : Nat
deriving DecidableEq, Repr

/-- What QUERY-CRANE answers (R193): the fields of R55 that are present, and what R53 and R175 add. -/
structure CraneAnswer where
  number : CraneNo
  aisle : AisleNo
  crane : Crane
  stopUnanswered : Bool
  cycleEstimate : Option Ms
  /-- error count, outstanding frame number and echo deadline, while the link is PROVING (R175) -/
  proving : Option Proving
deriving DecidableEq, Repr

/-- What QUERY-AISLE answers (R193). -/
structure AisleAnswer where
  record : Aisle
  spanFront : Option Span
  spanRear : Option Span
  pause : Bool
deriving DecidableEq, Repr

/-- What QUERY-STATION answers (R168); the reservation count is the number of `reserved`. -/
structure StationAnswer where
  infeed : List InLoad
  claimant : Option JobId
  outfeed : List OutLoad
  reserved : List JobId
  releasing : Bool
  collector : CollectorState
  rotation : AisleNo
  capacities : Option (Nat × Nat)
deriving DecidableEq, Repr

/-- The data an accepted request's reply carries after its result (R189, R193). -/
inductive ReplyData where
  | none
  /-- END-RUN: children withdrawn, children left live (R145) -/
  | counts (withdrawn : Nat) (left : Nat)
  /-- QUERY-JOB: the record and its place in its queue (R42) -/
  | job (j : Job) (place : Nat)
  /-- QUERY-RUN: the record and its live children, oldest stamp first (R148) -/
  | run (r : Run) (children : List JobId)
  | locations (records : List (Loc × LocRec))
  | aisle (a : AisleAnswer)
  | crane (c : CraneAnswer)
  /-- QUERY-CRANE of an ABSENT crane: role and state alone (R55) -/
  | absentCrane (role : Role) (state : CraneState)
  | station (a : StationAnswer)
  /-- QUERY-GROUP: the record, its place in the opening order, and whether it is ACTIVE (R169) -/
  | group (g : Group) (place : Nat) (active : Bool)
  | identity (i : Identity)
deriving DecidableEq, Repr

/-- A reply (R189). -/
structure Reply where
  kind : ReplyKind
  tag : FrameTag
  result : Result
  data : ReplyData
deriving DecidableEq, Repr

/-- JOB-ENDED (R41). -/
structure JobEnded where
  id : JobId
  parent : Option JobId
  run : Option RunId
  outcome : JobOutcome
  cause : Option JobCause
  crane : Option CraneNo
  tagRead : Option Tag
  final : Option Loc
  noteOccupied : Bool
  noteLate : Bool
deriving DecidableEq, Repr

/-- Reasons of LOAD-MOVED (R133, R134). -/
inductive MoveReason where
  | clearance | disposal
deriving DecidableEq, Repr

/-- LOAD-MOVED (R133, R134); `source` is a location or the rear infeed of `aisle`. -/
structure LoadMoved where
  id : JobId
  parent : Option JobId
  reason : MoveReason
  tag : Tag
  aisle : AisleNo
  source : Place
  target : Option Loc
  noteOccupied : Bool
deriving DecidableEq, Repr

/-- CRANE-STATE (R56). -/
structure CraneReport where
  crane : CraneNo
  state : CraneState
  link : Link
  fault : Option FaultCause
  drift : Option Nat
  noAnswer : Bool
  unmatched : Bool
deriving DecidableEq, Repr

/-- Causes of a failed start (R179, R186). -/
inductive StartFailure where
  | provingFailed | drift | craneFault
deriving DecidableEq, Repr

/-- Kinds of STATION-FAULT (R167). -/
inductive StationFault where
  | malformed | noProfile | infeedFull | unexpectedDeparture
deriving DecidableEq, Repr

/-- Causes of GROUP-ENDED (R162, R163). -/
inductive GroupCause where
  | complete | cancelled
deriving DecidableEq, Repr

/-- Host reports (section 11.4). -/
inductive Report where
  | jobEnded (r : JobEnded)
  | loadMoved (r : LoadMoved)
  | runEnded (id : RunId) (cause : RunCause) (completed failed skipped unspawned : Nat)
  | loadArrived (aisle : AisleNo) (tag : Tag) (mark : Bool)
  | groupEnded (id : GroupId) (cause : GroupCause)
  | stationFault (aisle : Option AisleNo) (kind : StationFault)
  | craneState (r : CraneReport)
  | aisleState (aisle : AisleNo) (state : AisleState) (cause : Option StartFailure)
  | scheduleAdopted (aisle : AisleNo)
  | reportsLost (count : Nat)
deriving DecidableEq, Repr

/-- The kinds of the host reports (section 11.4). -/
inductive ReportKind where
  | jobEnded | loadMoved | runEnded | loadArrived | groupEnded | stationFault | craneState | aisleState
  | scheduleAdopted | reportsLost
deriving DecidableEq, Repr

/-- A frame of the output line (R190). A reply carries its request's tag; a host report has a tag of its own, which R187
makes 0. -/
inductive OutFrame where
  | reply (r : Reply)
  | report (tag : FrameTag) (r : Report)
deriving DecidableEq, Repr

/-- A received frame of the host link: its kind, its tag, its body (R187). -/
structure HostFrame where
  kind : Byte
  tag : FrameTag
  body : List Byte
deriving DecidableEq, Repr

/-- A frame in the request input buffer (R188): as it was received, or with the request that its bytes ask for, once that
is known (log entry 6). -/
inductive InEntry where
  | read (f : HostFrame)
  | request (c : Instr)
deriving DecidableEq, Repr

/-- The host link interface's block. -/
structure Hli where
  /-- bytes read from the line that no frame has used yet (R187) -/
  rx : List Byte
  /-- the request input buffer (R188) -/
  input : List InEntry
  /-- the reply queue (R190) -/
  replies : List Reply
  /-- the report queue (R191) -/
  reports : List Report
  /-- the lost-report count (R191) -/
  lost : Nat
  /-- the dispatch pause signal (R192) -/
  pause : Bool
  /-- the frame in transmission on the output line; none while the line is idle (R190) -/
  line : Option OutFrame
deriving DecidableEq, Repr

/-! ## Messages the part sends -/

/-- The content of a CYCLE or a REDIRECT (R59). -/
structure CycleContent where
  job : JobId
  source : Place
  dest : Option Place
  tag : Tag
deriving DecidableEq, Repr

/-- Orders on a crane link (R59). A PROBE names its frame number, which its tag carries (R58). -/
inductive CraneOrder where
  | cycle (c : CycleContent)
  | redirect (c : CycleContent)
  | abort
  | placeAgain (dest : Place)
  | carry (dest : Place)
  | move (target : Nat) (purpose : Purpose)
  | reference
  | stop
  | probe (frame : Nat) (body : List Byte)
deriving DecidableEq, Repr

/-- R58: the tag of an order's frame: the frame number in a PROBE, and 0 in every other order. -/
@[simp] def CraneOrder.tag : CraneOrder → FrameTag
  | .cycle _ => 0
  | .redirect _ => 0
  | .abort => 0
  | .placeAgain _ => 0
  | .carry _ => 0
  | .move _ _ => 0
  | .reference => 0
  | .stop => 0
  | .probe frame _ => BitVec.ofNat 16 frame

/-- Messages on the station link (R150). -/
inductive StationOrder where
  | release (aisle : AisleNo)
  | resync
deriving DecidableEq, Repr

/-- R150: the tag of a station link frame. -/
@[simp] def StationOrder.tag : StationOrder → FrameTag
  | .release _ => 0
  | .resync => 0

/-- A message the part has sent, with its line; a frame of a crane link or of the station link with the tag it carries (R58,
R150). -/
inductive Sent where
  | crane (c : CraneNo) (tag : FrameTag) (o : CraneOrder)
  | station (tag : FrameTag) (o : StationOrder)
  | host (f : OutFrame)
deriving DecidableEq, Repr

/-! ## The whole state -/

/-- The state of the part. -/
structure State where
  /-- the millisecond timer -/
  now : Ms
  hli : Hli
  jtb : Jtb
  rnu : Rnu
  ltb : LocTable
  aisles : Vector Aisle 8
  cranes : Vector Crane 16
  /-- the claims the aisle controllers hold for their cranes (R91) -/
  claims : Vector (Option Span) 16
  proving : Vector Proving 16
  stu : Stu
  /-- the group records in opening order (R158) -/
  groups : List Group
  /-- the model's own: the messages sent since the hardware reset, oldest first (log entry 4) -/
  sent : List Sent
  /-- the commands that are waiting, first in, first out -/
  pending : List Instr
deriving DecidableEq, Repr

/-- No command makes the block stop with a fault: the spec gives every event of its table an effect, so this type has
no constructor, and no definition of the model raises one. That is safe: no fault can stand in the place of an
effect. -/
inductive Fault where
deriving DecidableEq, Repr

/-- Why a command is refused by the MODEL (a request the PART refuses is answered by a reply, and is a next state). -/
inductive Refusal where
  /-- raised by `exec` alone, for a command that has no meaning yet; safe, since nothing is claimed of the command's
  effect. No arm of this model answers it. -/
  | notModelled (mnemonic : String)
deriving DecidableEq, Repr

/-! ## Values after a hardware reset -/

/-- R120: all entries EMPTY, ANY, EITHER; count 0. -/
def SchedList.reset (n : Nat) : SchedList n := { entries := Vector.replicate n {}, count := 0 }

/-- R120. -/
def Schedule.reset : Schedule :=
  { wheel := .reset 64, priority := .reset 16, rot1 := .reset 16, rot2 := .reset 16 }

/-- R171, R120: CLOSED, no profile, ceiling 7. -/
def Aisle.reset : Aisle :=
  { state := .closed, start := none, resume := none, profile := none, ceiling := 7, active := .reset,
    pendingCopy := .reset, wheelPtr := 0, rot1Ptr := 0, rot2Ptr := 0, marked := false }

/-- R57, column "Hardware reset". -/
def Crane.reset : Crane :=
  { role := .absent, state := .offline, pos := none, standing := none, span := none, job := none, promised := none,
    order := .none, leg := none, move := none, carryPending := false, load := .none, cycles := 0,
    refStatus := .current, link := .unproven, motionDeadline := none, stopDeadline := none, idleSince := none,
    fault := none }

/-- No proving is in progress. -/
def Proving.reset : Proving := { errors := 0, frame := none, echoDeadline := none }

/-- R170, column "Hardware reset", for the stations of one aisle. -/
def Station.reset : Station := { infeed := [], outfeed := [], reserved := [], releasing := false }

/-- R170, column "Hardware reset". -/
def Stu.reset : Stu :=
  { stations := Vector.replicate 8 .reset, collector := .notReady, rotation := 0, linkUp := false }

/-- R195, which names the input buffer and the two queues, and no bytes of a frame not yet complete: that they are dropped, so
that the line is searched for a sync byte anew, is a DESIGN CHOICE (log entry 48). -/
def Hli.reset : Hli :=
  { rx := [], input := [], replies := [], reports := [], lost := 0, pause := false, line := none }

/-- R43, R124. -/
def Jtb.reset : Jtb :=
  { jobs := [], queues := Vector.replicate 16 [], stamp := 1, internalId := Config.firstInternalId, clearWait := [],
    freeNotices := 0, mismatched := [], targetOccupied := [], headTaken := [] }

/-- R149. -/
def Rnu.reset : Rnu := { runs := [], marker := none }

/-- The part right after a hardware reset (R195): every block at its hardware-reset values, nothing sent, and no
command waiting. The timer's value is a DESIGN CHOICE (log entry 3). -/
def State.reset : State :=
  { now := 0, hli := .reset, jtb := .reset, rnu := .reset, ltb := [], aisles := Vector.replicate 8 .reset,
    cranes := Vector.replicate 16 .reset, claims := Vector.replicate 16 none,
    proving := Vector.replicate 16 .reset, stu := .reset, groups := [], sent := [], pending := [] }

end Sys2Proof.Machine
end

