-- ==== Sys2Proof/Machine/Flags.lean ====
section
/-! DEFINITION. The flags the part computes: the wait set of a job, what a job state stands for, the reference status
(R81), the ready line (R188), the pause thresholds (R192), the tag check (R64), and the age order of stamps (R21). -/

namespace Sys2Proof.Machine

/-- Whether a wait set holds a reason. -/
def Waits.has (w : Waits) : Reason → Bool
  | .load => w.load
  | .group => w.group
  | .depth => w.depth
  | .clearance => w.clearance
  | .noPlace => w.noPlace
  | .stationBlocked => w.stationBlocked

/-- A wait set with one reason set or cleared. -/
def Waits.put (w : Waits) (r : Reason) (b : Bool) : Waits :=
  match r with
  | .load => { w with load := b }
  | .group => { w with group := b }
  | .depth => { w with depth := b }
  | .clearance => { w with clearance := b }
  | .noPlace => { w with noPlace := b }
  | .stationBlocked => { w with stationBlocked := b }

/-- Whether a wait set is empty. -/
def Waits.isEmpty (w : Waits) : Bool := w = {}

/-- WAITING or READY. -/
def JobState.unstarted : JobState → Bool
  | .waiting => true
  | .ready => true
  | _ => false

/-- The stranded phase of a STRANDED job. -/
def JobState.phase? : JobState → Option Phase
  | .stranded p => some p
  | _ => none

/-- The holder of a location record, present when INBOUND or OUTBOUND (R2). -/
def Occ.holder : Occ → Option JobId
  | .inbound _ h => some h
  | .outbound _ h => some h
  | _ => none

/-- R21: whether stamp `a` is older than stamp `b`. -/
def older (a b : Nat) : Bool :=
  let d := (b + Config.stampModulus - a % Config.stampModulus) % Config.stampModulus
  1 ≤ d && d ≤ Config.stampHalf

/-- R64, R11: a tag-mismatch check fails only when both tags are nonzero and they differ. -/
def tagsDiffer (expected read : Tag) : Bool := expected ≠ 0 && read ≠ 0 && expected ≠ read

/-- The tag-read field after a FETCHED report: absent when the crane read no tag (log entry 14). -/
def readTag (t : Tag) : Option Tag := if t = 0 then none else some t

/-- The recorded tag a tag-read field gives: 0 when the crane read no tag (R9). -/
def tagOr0 (t : Option Tag) : Tag := t.getD 0

/-- R81: the reference status of a count under an interval. -/
def refStatusOf (interval count : Nat) : RefStatus :=
  if count < interval then .current
  else if count < interval + Config.forcedExcess then .due
  else .forced

/-- R81: the count after one more PLACED OK, held at interval + 8. -/
def nextCycles (interval count : Nat) : Nat := min (count + 1) (interval + Config.forcedExcess)

/-- R188: the ready line is high while the input buffer holds fewer than 4 frames. -/
def State.readyLine (s : State) : Bool := s.hli.input.length < Config.inputFrames

/-- R33: the urgency after a bump: lowered by 1, but not below 1. -/
def bumpUrgency (u : Nat) : Nat := if 1 < u then u - 1 else u

/-- R22, R31: an urgency above 7 is clamped to 7. -/
def clampUrgency (u : Nat) : Nat := min u 7

end Sys2Proof.Machine
end

