-- ==== Sys2Proof/Machine/Travel.lean ====
section
/-! DEFINITION. The travel estimator TEU: exact integer estimates from two points and a profile (R44–R54). It keeps no
state. A place's point, its handling time, the axis and move times, the estimates of the orders, the motion limit. -/

namespace Sys2Proof.Machine

/-- A quotient rounded up to the next whole number. -/
def ceilDiv (n d : Nat) : Nat := (n + d - 1) / d

/-- The largest `r` built from bits `k − 1 … 0` above `r` whose square stays below `q`. -/
def rootBelow (q : Nat) : Nat → Nat → Nat
  | 0, r => r
  | k + 1, r => rootBelow q k (if (r + 2 ^ k) * (r + 2 ^ k) < q then r + 2 ^ k else r)

/-- The smallest `t` with `t * t ≥ q`, for every `q ≤ 2 ^ 80` (R46: Q stays below 14,400,000,000). -/
def ceilSqrt (q : Nat) : Nat := if q = 0 then 0 else rootBelow q 40 0 + 1

/-- An axis distance (R45). -/
def axisDist (a b pitch : Nat) : Nat := (max a b - min a b) * pitch

/-- R46: the axis time of distance `d` under speed `v` and acceleration `a`: zero distance, trapezoid, triangle. -/
def axisTime (d v a : Nat) : Ms :=
  if d = 0 then 0
  else if v * v / a ≤ d then ceilDiv (1000 * d * a + 1000 * v * v) (v * a)
  else ceilSqrt (ceilDiv (4000000 * d) a)

/-- R47: the larger of the two axis times, not yet saturated. -/
def moveTime (p : Profile) (x y : Point) : Ms :=
  max (axisTime (axisDist x.1 y.1 p.bayPitch) p.vx p.ax) (axisTime (axisDist x.2 y.2 p.levelPitch) p.vy p.ay)

/-- R47: every estimate saturates at 600,000 ms. -/
def saturate (t : Ms) : Ms := min t Config.estimateCap

/-- R44: the point of a place. -/
def Place.point (p : Profile) : Place → Point
  | .loc l => (l.bay, l.level)
  | .infeed => (p.bays + 1, 0)
  | .outfeed => (0, 0)

/-- The bay of a place (R90: s, d). -/
def Place.bay (p : Profile) (x : Place) : Nat := (x.point p).1

/-- R48: the handling time of a place. -/
def handling (p : Profile) : Place → Ms
  | .loc l => match l.depth with
    | .near => p.forkNear
    | .far => p.forkFar
  | .infeed => p.forkNear
  | .outfeed => p.forkNear

/-- A saturated move estimate between two points. -/
def moveEstimate (p : Profile) (x y : Point) : Ms := saturate (moveTime p x y)

/-- R52: an estimate that starts at a position field; 600,000 when the position is unknown. -/
def fromPosition (p : Profile) (pos : Option Point) (y : Point) : Ms :=
  match pos with
  | some x => moveEstimate p x y
  | none => Config.estimateCap

/-- R49: the lead estimate. -/
def leadEstimate (p : Profile) (pos : Option Point) (source : Place) : Ms := fromPosition p pos (source.point p)

/-- R49: the haul estimate. -/
def haulEstimate (p : Profile) (source dest : Place) : Ms := moveEstimate p (source.point p) (dest.point p)

/-- R49: the cycle estimate; the sum is saturated once, after its parts are added (R47). -/
def cycleEstimate (p : Profile) (pos : Option Point) (source dest : Place) : Ms :=
  saturate (leadEstimate p pos source + handling p source + haulEstimate p source dest + handling p dest)

/-- R50: the carry estimate. -/
def carryEstimate (p : Profile) (pos : Option Point) (dest : Place) : Ms := fromPosition p pos (dest.point p)

/-- R50, R52: the place-again estimate, from the standing point. -/
def placeAgainEstimate (p : Profile) (standing dest : Place) : Ms :=
  saturate (moveTime p (standing.point p) (dest.point p) + handling p dest)

/-- R50: the reference bay of a role. -/
def refBay (p : Profile) : Role → Nat
  | .rear => p.bays + 1
  | .front => 0
  | .sole => 0
  | .absent => 0

/-- R50: the far end of a role's reach. -/
def farEnd (p : Profile) : Role → Nat
  | .front => p.bays + 1 - p.separation
  | .rear => p.separation
  | .sole => p.bays + 1
  | .absent => 0

/-- R50: the reference estimate, from the position or from the far end of the reach at level Lmax. -/
def referenceEstimate (p : Profile) (role : Role) (pos : Option Point) : Ms :=
  moveEstimate p (pos.getD (farEnd p role, p.levels)) (refBay p role, 0)

/-- R51: the motion limit of an estimate. -/
def motionLimit (p : Profile) (e : Ms) : Ms :=
  min (ceilDiv (e * (100 + p.overrunPercent)) 100 + p.overrunMargin) Config.limitCap

end Sys2Proof.Machine
end

