-- ==== Sys2Proof/Machine/Ops.lean ====
section
/-! DEFINITION. The named operations every event is written with: reading and writing one record of the state, the work of
one event with the notices it raises (`Work`), sending on a line, queuing a host report (R191, R192), entering a
crane state (R56), writing a span (R90), arming a motion deadline (R51, R54). -/

namespace Sys2Proof.Machine

/-! ## Names of cranes and aisles -/

/-- R55: the aisle of a crane is its number divided by 2, rounded down. -/
def aisleOf (c : CraneNo) : AisleNo := ⟨c.val / 2, by omega⟩

/-- Crane 2a of aisle a: FRONT or SOLE. -/
def frontOf (a : AisleNo) : CraneNo := ⟨2 * a.val, by omega⟩

/-- Crane 2a+1 of aisle a: REAR or ABSENT. -/
def rearOf (a : AisleNo) : CraneNo := ⟨2 * a.val + 1, by omega⟩

/-- The other crane of a crane's aisle. -/
def other (c : CraneNo) : CraneNo :=
  if c.val % 2 = 0 then rearOf (aisleOf c) else frontOf (aisleOf c)

/-- The two cranes of an aisle, the FRONT (or SOLE) one first. -/
def cranesOf (a : AisleNo) : List CraneNo := [frontOf a, rearOf a]

/-- The aisles in order. -/
def allAisles : List AisleNo := [0, 1, 2, 3, 4, 5, 6, 7]

/-- The cranes in order. -/
def allCranes : List CraneNo := [0, 1, 2, 3, 4, 5, 6, 7, 8, 9, 10, 11, 12, 13, 14, 15]

/-! ## Reading the state -/

/-- The profile values read where an aisle has no profile: none of them is used then, since both cranes of such an
aisle are ABSENT and its requests are refused NO-PROFILE. -/
def Profile.blank : Profile :=
  { bays := 0, levels := 0, doubleDeep := false, craneCount := 1, bayPitch := 0, levelPitch := 0, vx := 0, ax := 0,
    vy := 0, ay := 0, forkNear := 0, forkFar := 0, separation := 0, overrunPercent := 0, overrunMargin := 0,
    refInterval := 0, driftLimit := 0, parkDelay := 0, parkFront := 0, parkRear := 0, agingStep := 0,
    infeedCap := 0, outfeedCap := 0, provingAllowance := 0 }

/-- The crane record of a crane. -/
def State.crane (s : State) (c : CraneNo) : Crane := s.cranes[c]

/-- The aisle record of an aisle. -/
def State.aisle (s : State) (a : AisleNo) : Aisle := s.aisles[a]

/-- The profile of an aisle that has one. -/
def State.prof (s : State) (a : AisleNo) : Profile := (s.aisle a).profile.getD .blank

/-- The profile of a crane's aisle. -/
def State.craneProf (s : State) (c : CraneNo) : Profile := s.prof (aisleOf c)

/-- The stations of an aisle. -/
def State.station (s : State) (a : AisleNo) : Station := s.stu.stations[a]

/-- The claim held for a crane (R91). -/
def State.claimOf (s : State) (c : CraneNo) : Option Span := s.claims[c]

/-- The proving progress of a crane's link (R175). -/
def State.provingOf (s : State) (c : CraneNo) : Proving := s.proving[c]

/-- R19: QUERY-JOB and every rule find a job by id among the live records. -/
def State.job? (s : State) (id : JobId) : Option Job := s.jtb.jobs.find? (fun j => j.id == id)

/-- The job a crane serves. -/
def State.craneJob? (s : State) (c : CraneNo) : Option Job := (s.crane c).job.bind s.job?

/-- Whether an id is live. -/
def State.isLive (s : State) (id : JobId) : Bool := (s.job? id).isSome

/-- A run by id among the live records. -/
def State.run? (s : State) (id : RunId) : Option Run := s.rnu.runs.find? (fun r => r.id == id)

/-- A group by id among the existing records. -/
def State.group? (s : State) (id : GroupId) : Option Group := s.groups.find? (fun g => g.id == id)

/-- R158: the first record of the opening order is ACTIVE. -/
def State.activeGroup (s : State) : Option Group := s.groups.head?

/-- A crane is present when its role is not ABSENT (R171). -/
def State.present (s : State) (c : CraneNo) : Bool := (s.crane c).role ≠ .absent

/-- The present cranes of an aisle. -/
def State.presentOf (s : State) (a : AisleNo) : List CraneNo := (cranesOf a).filter s.present

/-! ## The work of one event -/

/-- The work of one event: the state, and the notices and tests that the event has raised and that are acted upon
after its other changes. Nothing of it but the state outlives the event. -/
structure Work where
  st : State
  /-- readiness notices (R29) -/
  ready : List JobId := []
  /-- crane-idle notices (R56) -/
  idle : List CraneNo := []
  /-- location-available notices (R15, R131) -/
  avail : List AisleNo := []
  /-- cranes that gained a span, changed their span or entered IDLE (R78, R98) -/
  marks : List CraneNo := []
  /-- aisles to evaluate (R105) -/
  evals : List AisleNo := []
  /-- aisles whose evaluation is followed by a redirect sweep (R116) -/
  sweeps : List AisleNo := []
  /-- aisles whose infeed claim is to be evaluated (R155) -/
  claimsDue : List AisleNo := []
  /-- STARTING aisles to test for success (R178, R185) -/
  startsDue : List AisleNo := []
  /-- aisles to test for the completion of their close (R181) -/
  closesDue : List AisleNo := []
  /-- whether the collector arbiter makes a release decision (R165) -/
  releaseDue : Bool := false
  /-- stopped runs without live children, in the order they came to it, that end after every report (R146) -/
  runEnds : List RunId := []
  /-- whether RUN-ENDED waits until after every report of the event, as at END-RUN (R146) -/
  deferRuns : Bool := false
  /-- the drift a REFERENCED of this event reported, and its crane (R56, R83) -/
  drift : Option (CraneNo × Nat) := none
  /-- whether a job ended in this event (R142) -/
  jobEnded : Bool := false

/-- The work of an event that begins in a state. -/
def Work.start (s : State) : Work := { st := s }

/-- Work with its state changed. -/
def Work.onState (w : Work) (f : State → State) : Work := { w with st := f w.st }

/-- One crane record changed. -/
def State.mapCrane (s : State) (c : CraneNo) (f : Crane → Crane) : State :=
  { s with cranes := s.cranes.set c (f s.cranes[c]) }

/-- One aisle record changed. -/
def State.mapAisle (s : State) (a : AisleNo) (f : Aisle → Aisle) : State :=
  { s with aisles := s.aisles.set a (f s.aisles[a]) }

/-- The stations of one aisle changed. -/
def State.mapStation (s : State) (a : AisleNo) (f : Station → Station) : State :=
  { s with stu := { s.stu with stations := s.stu.stations.set a (f s.stu.stations[a]) } }

/-- The claim of one crane written. -/
def State.setClaim (s : State) (c : CraneNo) (x : Option Span) : State :=
  { s with claims := s.claims.set c x }

/-- The proving progress of one link written. -/
def State.setProving (s : State) (c : CraneNo) (p : Proving) : State :=
  { s with proving := s.proving.set c p }

/-- The job records with one id changed. -/
def State.mapJob (s : State) (id : JobId) (f : Job → Job) : State :=
  { s with jtb := { s.jtb with jobs := s.jtb.jobs.map (fun j => if j.id == id then f j else j) } }

/-- The run records with one id changed. -/
def State.mapRun (s : State) (id : RunId) (f : Run → Run) : State :=
  { s with rnu := { s.rnu with runs := s.rnu.runs.map (fun r => if r.id == id then f r else r) } }

/-- The group records with one id changed. -/
def State.mapGroup (s : State) (id : GroupId) (f : Group → Group) : State :=
  { s with groups := s.groups.map (fun g => if g.id == id then f g else g) }

/-- One crane record changed within an event. -/
def Work.mapCrane (w : Work) (c : CraneNo) (f : Crane → Crane) : Work := w.onState (·.mapCrane c f)

/-- One aisle record changed within an event. -/
def Work.mapAisle (w : Work) (a : AisleNo) (f : Aisle → Aisle) : Work := w.onState (·.mapAisle a f)

/-- The stations of one aisle changed within an event. -/
def Work.mapStation (w : Work) (a : AisleNo) (f : Station → Station) : Work := w.onState (·.mapStation a f)

/-- The job records with one id changed within an event. -/
def Work.mapJob (w : Work) (id : JobId) (f : Job → Job) : Work := w.onState (·.mapJob id f)

/-- The run records with one id changed within an event. -/
def Work.mapRun (w : Work) (id : RunId) (f : Run → Run) : Work := w.onState (·.mapRun id f)

/-! ## Sending -/

/-- A message leaves on a line. -/
def State.sendOut (s : State) (x : Sent) : State := { s with sent := s.sent ++ [x] }

/-- An order is sent to a crane (R59), in a frame with the tag of R58. -/
def Work.order (w : Work) (c : CraneNo) (o : CraneOrder) : Work := w.onState (·.sendOut (.crane c o.tag o))

/-- A message is sent on the station link, in a frame with the tag of R150. -/
def Work.stationOrder (w : Work) (o : StationOrder) : Work := w.onState (·.sendOut (.station o.tag o))

/-! ## Host reports (R191, R192) -/

/-- R191: a report to be appended to a full queue is counted as lost; an append that brings the count to 96 or more
raises the dispatch pause (R192). -/
def Hli.append (h : Hli) (r : Report) : Hli :=
  if Config.reportEntries ≤ h.reports.length then { h with lost := min (h.lost + 1) Config.maxLost }
  else { h with reports := h.reports ++ [r], pause := h.pause || decide (Config.pauseRaise ≤ h.reports.length + 1) }

/-- Whether an entry is a CRANE-STATE of a crane. -/
def Report.isCraneState (c : CraneNo) : Report → Bool
  | .craneState x => x.crane == c
  | _ => false

/-- Whether an entry is an AISLE-STATE of an aisle. -/
def Report.isAisleState (a : AisleNo) : Report → Bool
  | .aisleState b _ _ => b == a
  | _ => false

/-- R191: the replacing CRANE-STATE carries the new values, and the notes of both. -/
def CraneReport.over (new : CraneReport) : Report → Report
  | .craneState old =>
    .craneState { new with noAnswer := new.noAnswer || old.noAnswer, unmatched := new.unmatched || old.unmatched }
  | r => r

/-- R191: a report is queued; CRANE-STATE per crane and AISLE-STATE per aisle replace an unsent entry in place. -/
def Hli.queue (h : Hli) (r : Report) : Hli :=
  match r with
  | .craneState x =>
    if h.reports.any (Report.isCraneState x.crane) then
      { h with reports := h.reports.map (fun e => if e.isCraneState x.crane then x.over e else e) }
    else h.append r
  | .aisleState a _ _ =>
    if h.reports.any (Report.isAisleState a) then
      { h with reports := h.reports.map (fun e => if e.isAisleState a then r else e) }
    else h.append r
  | _ => h.append r

/-- A host report is queued in the event. -/
def Work.report (w : Work) (r : Report) : Work := w.onState (fun s => { s with hli := s.hli.queue r })

/-- R56: CRANE-STATE with the fault cause and the notes given; it carries the drift when it follows a REFERENCED. -/
def Work.reportCraneAs (w : Work) (c : CraneNo) (fault : Option FaultCause) (noAnswer unmatched : Bool) : Work :=
  w.report (.craneState
    { crane := c, state := (w.st.crane c).state, link := (w.st.crane c).link, fault := fault,
      drift := match w.drift with
        | some (d, mm) => if d = c then some mm else none
        | none => none
      noAnswer := noAnswer, unmatched := unmatched })

/-- R56: CRANE-STATE of the record as it stands. -/
def Work.reportCrane (w : Work) (c : CraneNo) : Work := w.reportCraneAs c (w.st.crane c).fault false false

/-- R171: AISLE-STATE of the record as it stands, with a cause after a failed start. -/
def Work.reportAisle (w : Work) (a : AisleNo) (cause : Option StartFailure) : Work :=
  w.report (.aisleState a (w.st.aisle a).state cause)

/-! ## Notices and tests -/

/-- A readiness notice (R29): the aisle's evaluation considers the job. -/
def Work.noticeReady (w : Work) (id : JobId) (a : AisleNo) : Work :=
  { w with ready := w.ready ++ [id], evals := w.evals ++ [a] }

/-- A location-available notice (R15, R131). -/
def Work.noticeAvail (w : Work) (a : AisleNo) : Work :=
  { w with avail := w.avail ++ [a], evals := w.evals ++ [a] }

/-- A crane's span or idleness has changed (R78, R98). -/
def Work.mark (w : Work) (c : CraneNo) : Work := { w with marks := w.marks ++ [c] }

/-- An aisle is to be evaluated (R105). -/
def Work.evalAisle (w : Work) (a : AisleNo) : Work := { w with evals := w.evals ++ [a] }

/-- The infeed claim of an aisle is to be evaluated (R155). -/
def Work.claimDue (w : Work) (a : AisleNo) : Work := { w with claimsDue := w.claimsDue ++ [a] }

/-- The close of an aisle is to be tested (R181). -/
def Work.closeDue (w : Work) (a : AisleNo) : Work := { w with closesDue := w.closesDue ++ [a] }

/-- The start of an aisle is to be tested (R178, R185). -/
def Work.startDue (w : Work) (a : AisleNo) : Work := { w with startsDue := w.startsDue ++ [a] }

/-- The collector arbiter is to decide (R165). -/
def Work.askRelease (w : Work) : Work := { w with releaseDue := true }

/-! ## Crane states, spans and deadlines -/

/-- R56: the states whose entry and leaving are reported by CRANE-STATE. -/
def CraneState.reported : CraneState → Bool
  | .offline => true
  | .faulted => true
  | .stopped => true
  | .reference => true
  | _ => false

/-- A crane enters a state without a report: the idle-since time is set on entering IDLE and dropped on leaving it, and
an entry into IDLE gives the crane-idle notice (R56). -/
def Work.enterQuiet (w : Work) (c : CraneNo) (st : CraneState) : Work :=
  let w := w.mapCrane c (fun x =>
    { x with state := st, idleSince := if st = .idle then some w.st.now else none })
  let w := w.closeDue (aisleOf c)
  if st = .idle then { (w.mark c) with idle := w.idle ++ [c] } else w

/-- A crane enters a state; CRANE-STATE is queued when the change enters or leaves OFFLINE, FAULTED, STOPPED or
REFERENCE, with the fault cause given (R56). -/
def Work.enterAs (w : Work) (c : CraneNo) (st : CraneState) (fault : Option FaultCause) : Work :=
  let old := (w.st.crane c).state
  let w := w.enterQuiet c st
  if old ≠ st ∧ (old.reported || st.reported) then w.reportCraneAs c fault false false else w

/-- A crane enters a state, reported with the fault cause its record holds. -/
def Work.enter (w : Work) (c : CraneNo) (st : CraneState) : Work := w.enterAs c st (w.st.crane c).fault

/-- The smallest span that holds two bays (R90: hull). -/
def hull2 (a b : Nat) : Span := (min a b, max a b)

/-- The smallest span that holds three bays (R90: hull). -/
def hull3 (a b c : Nat) : Span := (min a (min b c), max a (max b c))

/-- The smallest span that holds two spans (R91). -/
def Span.hull (x y : Span) : Span := (min x.1 y.1, max x.2 y.2)

/-- R90: the aisle controller writes a span. A change or a first span is marked for the other crane (R78, R98). -/
def Work.setSpan (w : Work) (c : CraneNo) (sp : Span) : Work :=
  let old := (w.st.crane c).span
  let w := w.mapCrane c (fun x => { x with span := some sp })
  if old = some sp then w else w.mark c

/-- R90: a span written by a row of its table that is marked "shrink"; in a twin aisle a change causes an evaluation
(R105; log entry 16). -/
def Work.shrinkSpan (w : Work) (c : CraneNo) (sp : Span) : Work :=
  let old := (w.st.crane c).span
  let twin := (w.st.crane c).role ≠ .sole
  let w := w.setSpan c sp
  if twin ∧ old.isSome ∧ old ≠ some sp then w.evalAisle (aisleOf c) else w

/-- R51, R54: the motion deadline is armed at the current time plus the limit of an estimate. -/
def Work.arm (w : Work) (c : CraneNo) (e : Ms) : Work :=
  let d := w.st.now + motionLimit (w.st.craneProf c) e
  w.mapCrane c (fun x => { x with motionDeadline := some d })

/-- The motion deadline is dropped. -/
def Work.disarm (w : Work) (c : CraneNo) : Work := w.mapCrane c (fun x => { x with motionDeadline := none })

/-- R61: STOP is sent and the stop answer deadline is armed. -/
def Work.sendStop (w : Work) (c : CraneNo) : Work :=
  let d := w.st.now + Config.stopAnswerTime
  (w.mapCrane c (fun x => { x with stopDeadline := some d })).order c .stop

/-- R91: a claim is dropped without REDIRECT-TAKEN, which causes an evaluation in a twin aisle (R105). -/
def Work.dropClaim (w : Work) (c : CraneNo) : Work :=
  match w.st.claimOf c with
  | some _ =>
    let w := w.onState (·.setClaim c none)
    if (w.st.crane c).role ≠ .sole then w.evalAisle (aisleOf c) else w
  | none => w

/-- The clock of an expiry: an expiry is taken at its time, or at the present time when that is later (log entry 2). -/
def Work.reach (w : Work) (t : Ms) : Work := w.onState (fun s => { s with now := max s.now t })

end Sys2Proof.Machine
end

