-- ==== Sys2Proof/Machine/Rail.lean ====
section
/-! DEFINITION. The shared rail: roles and reach (R87, R88), effective spans (R91), the plain rail test (R92), the test
with a yield (R94). -/

namespace Sys2Proof.Machine

/-- R87: the reach of a role. -/
def reach (p : Profile) : Role → Option Span
  | .front => some (0, p.bays + 1 - p.separation)
  | .rear => some (p.separation, p.bays + 1)
  | .sole => some (0, p.bays + 1)
  | .absent => none

/-- Whether a reach holds a bay. -/
def inReach (p : Profile) (r : Role) (bay : Nat) : Bool :=
  match reach p r with
  | some (lo, hi) => lo ≤ bay && bay ≤ hi
  | none => false

/-- R88: the roles that may serve a kind. -/
def mayServe : Role → JobKind → Bool
  | .absent, _ => false
  | .front, .store => false
  | .rear, .retrieve => false
  | _, _ => true

/-- The location bays of a job (R88, R103). -/
def Job.bays (j : Job) : List Nat :=
  (match j.source with | .loc l => [l.bay] | _ => []) ++ (match j.dest with | some (.loc l) => [l.bay] | _ => [])

/-- R103, R114: a crane's role may serve the job's kind, and its reach holds the job's location bays. -/
def roleAndReach (p : Profile) (r : Role) (j : Job) : Bool :=
  mayServe r j.kind && j.bays.all (inReach p r)

/-- R91: the effective span of a crane is its claim while it has one, and its span otherwise. -/
def State.effectiveSpan (s : State) (c : CraneNo) : Option Span := (s.claimOf c).or (s.crane c).span

/-- R92, the comparison: span `x` of the crane of role `r` against span `o` of the other crane. -/
def apart (p : Profile) (r : Role) (x o : Span) : Bool :=
  match r with
  | .front => x.2 + p.separation ≤ o.1
  | .rear => o.2 + p.separation ≤ x.1
  | .sole => true
  | .absent => false

/-- R92: the plain rail test. -/
def State.plainTest (s : State) (c : CraneNo) (x : Span) : Bool :=
  let p := s.craneProf c
  let r := (s.crane c).role
  inReach p r x.1 && inReach p r x.2 &&
    match r with
    | .sole => true
    | .absent => false
    | _ =>
      match s.effectiveSpan (other c) with
      | some o => apart p r x o
      | none => false

/-- R94: the yield target of the other crane for a proposed span of `c`: beyond its hi for a REAR crane that yields,
before its lo for a FRONT crane that yields. -/
def yieldTarget (p : Profile) (yielder : Role) (x : Span) : Option Nat :=
  match yielder with
  | .rear => some (x.2 + p.separation)
  | .front => if p.separation ≤ x.1 then some (x.1 - p.separation) else none
  | _ => none

/-- R94: the test with a yield; it gives the yield target. -/
def State.yieldTest (s : State) (c : CraneNo) (x : Span) : Option Nat :=
  let p := s.craneProf c
  let o := other c
  let oc := s.crane o
  let r := (s.crane c).role
  if oc.state = .idle ∧ oc.pos.isSome ∧ s.claimOf o = none ∧ inReach p r x.1 ∧ inReach p r x.2 then
    match yieldTarget p oc.role x with
    | some t => if inReach p oc.role t ∧ apart p r x (t, t) then some t else none
    | none => none
  else none

/-- R93, for a CYCLE at a grant or a CARRY: `some none` when the plain test passes, `some (some t)` when the test with a
yield to bay `t` does. -/
def State.railTest (s : State) (c : CraneNo) (x : Span) : Option (Option Nat) :=
  if s.plainTest c x then some none
  else match s.yieldTest c x with
    | some t => some (some t)
    | none => none

/-- R90: the cycle span: the hull of the bays of the position field, the source and the destination. -/
def cycleSpan (p : Profile) (pos : Point) (source dest : Place) : Span :=
  hull3 pos.1 (source.bay p) (dest.bay p)

end Sys2Proof.Machine
end

