-- ==== Sys2Proof/Machine/Waits.lean ====
section
/-! DEFINITION. Wait reasons and readiness: what JTB does when an owner adds or removes a reason (R25, R27), when a job
returns to READY (R28), and the outfeed reservation a job may hold (R156). -/

namespace Sys2Proof.Machine

/-- A WAITING job without reasons becomes READY: the ready-since time is set and the readiness notice is given (R25,
R29). -/
def Work.makeReady (w : Work) (id : JobId) : Work :=
  match w.st.job? id with
  | some j =>
    (w.mapJob id (fun x => { x with state := .ready, waits := {}, readySince := some w.st.now })).noticeReady id j.aisle
  | none => w

/-- R25: a reason is added. A READY job becomes WAITING and drops its ready-since time; a job past READY is left as it
stands. -/
def Work.addWait (w : Work) (id : JobId) (r : Reason) : Work :=
  w.mapJob id (fun x =>
    match x.state with
    | .ready => { x with state := .waiting, waits := x.waits.put r true, readySince := none }
    | .waiting => { x with waits := x.waits.put r true }
    | _ => x)

/-- R25: a reason is removed. A WAITING job that loses its last reason becomes READY. -/
def Work.delWait (w : Work) (id : JobId) (r : Reason) : Work :=
  match w.st.job? id with
  | some j =>
    if j.state = .waiting ∧ j.waits.has r then
      let rest := j.waits.put r false
      let w := w.mapJob id (fun x => { x with waits := rest })
      if rest.isEmpty then w.makeReady id else w
    else w
  | none => w

/-- R27: NO-PLACE or STATION-BLOCKED is set or cleared; the job's state does not change. -/
def Work.placeWait (w : Work) (id : JobId) (r : Reason) (b : Bool) : Work :=
  w.mapJob id (fun x => { x with waits := x.waits.put r b })

/-- The loads present plus the reservations of an outfeed (R156). -/
def State.outfeedSum (s : State) (a : AisleNo) : Nat :=
  (s.station a).outfeed.length + (s.station a).reserved.length

/-- R103: whether an outfeed has room. -/
def State.outfeedRoom (s : State) (a : AisleNo) : Bool := decide (s.outfeedSum a < (s.prof a).outfeedCap)

/-- R156: the room notice, given when the sum has fallen and lies below the capacity. -/
def Work.roomNotice (w : Work) (a : AisleNo) : Work := if w.st.outfeedRoom a then w.evalAisle a else w

/-- R156: a RETRIEVE gains its reservation. -/
def Work.reserve (w : Work) (j : Job) : Work :=
  if j.kind = .retrieve then w.mapStation j.aisle (fun x => { x with reserved := x.reserved ++ [j.id] }) else w

/-- R156: a reservation is removed without a load placed; a job that holds none is left as it stands. -/
def Work.unreserve (w : Work) (j : Job) : Work :=
  if (w.st.station j.aisle).reserved.contains j.id then
    (w.mapStation j.aisle (fun x => { x with reserved := x.reserved.filter (fun i => i != j.id) })).roomNotice j.aisle
  else w

/-- R28: a job enters READY from a later state: an empty wait set, the current time as ready-since time, no crane, its
location reservations kept and its outfeed reservation removed (R156); the infeed claim of a STORE is evaluated
(R155), and the readiness notice is given. -/
def Work.returnReady (w : Work) (id : JobId) : Work :=
  match w.st.job? id with
  | some j =>
    let w := w.unreserve j
    let w := w.mapJob id (fun x => { x with crane := none })
    let w := w.makeReady id
    if j.kind = .store then w.claimDue j.aisle else w
  | none => w

end Sys2Proof.Machine
end

