-- ==== Sys2Proof/Machine/Locations.lean ====
section
/-! DEFINITION. The location table LTB: its canonical form and its reads and writes, addresses (R1), the transitions of
occupancy with the depth checks they cause (R8–R15, R131), the creation of clearance jobs (R24, R123, R124), and place
selection (R128–R130). -/

namespace Sys2Proof.Machine

/-! ## The table -/

/-- LEFT before RIGHT. -/
def sideRank : Side → Nat
  | .left => 0
  | .right => 1

/-- NEAR before FAR. -/
def depthRank : Depth → Nat
  | .near => 0
  | .far => 1

/-- R193: the order of addresses: aisle, side, bay, level, depth. -/
def Loc.before (x y : Loc) : Bool :=
  decide (x.aisle.val < y.aisle.val) ||
  (decide (x.aisle.val = y.aisle.val) &&
    (decide (sideRank x.side < sideRank y.side) ||
    (decide (sideRank x.side = sideRank y.side) &&
      (decide (x.bay < y.bay) ||
      (decide (x.bay = y.bay) &&
        (decide (x.level < y.level) ||
        (decide (x.level = y.level) && decide (depthRank x.depth < depthRank y.depth))))))))

/-- The record of an address: the one listed, or UNKNOWN and unlocked (log entry 5). -/
def LocTable.get : LocTable → Loc → LocRec
  | [], _ => {}
  | (k, r) :: t, l => if k = l then r else LocTable.get t l

/-- A record written; the canonical form is kept. -/
def LocTable.put : LocTable → Loc → LocRec → LocTable
  | [], l, r => if r = {} then [] else [(l, r)]
  | (k, x) :: t, l, r =>
    if k = l then (if r = {} then t else (l, r) :: t)
    else if l.before k then (if r = {} then (k, x) :: t else (l, r) :: (k, x) :: t)
    else (k, x) :: LocTable.put t l r

/-- The records of one aisle dropped (R3). -/
def LocTable.dropAisle (t : LocTable) (a : AisleNo) : LocTable := t.filter (fun e => e.1.aisle != a)

/-- R4, one record: INBOUND and OUTBOUND become UNKNOWN, the locked flag is kept. -/
def LocRec.afterRestart (r : LocRec) : LocRec :=
  match r.occ with
  | .inbound _ _ => { r with occ := .unknown }
  | .outbound _ _ => { r with occ := .unknown }
  | _ => r

/-- R4: the table after RESTART. -/
def LocTable.afterRestart : LocTable → LocTable
  | [] => []
  | (k, r) :: t =>
    if r.afterRestart = {} then LocTable.afterRestart t else (k, r.afterRestart) :: LocTable.afterRestart t

/-- The canonical form: addresses strictly rising, no record equal to the unlisted one. -/
def LocTable.wf : LocTable → Bool
  | [] => true
  | (k, r) :: t =>
    decide (r ≠ {}) && (match t with | [] => true | (k2, _) :: _ => k.before k2) && LocTable.wf t

/-- The record of a location. -/
def State.loc (s : State) (l : Loc) : LocRec := s.ltb.get l

/-- A record written. -/
def State.setLoc (s : State) (l : Loc) (r : LocRec) : State := { s with ltb := s.ltb.put l r }

/-! ## Addresses -/

/-- The side a byte names (section 11.8). -/
def sideOf : Nat → Option Side
  | 0 => some .left
  | 1 => some .right
  | _ => none

/-- The depth a byte names (section 11.8). -/
def depthOf : Nat → Option Depth
  | 0 => some .near
  | 1 => some .far
  | _ => none

/-- R1: the address fields but the aisle, under a profile. -/
def checkFields (p : Profile) (a : AisleNo) (side bay level depth : Nat) : Option Loc :=
  match sideOf side, depthOf depth with
  | some sd, some dp =>
    if 1 ≤ bay ∧ bay ≤ p.bays ∧ 1 ≤ level ∧ level ≤ p.levels ∧ (dp = .near ∨ p.doubleDeep = true) then
      some { aisle := a, side := sd, bay := bay, level := level, depth := dp }
    else none
  | _, _ => none

/-- An aisle number that names an aisle. -/
def aisleNo? (n : Nat) : Option AisleNo := if h : n < 8 then some ⟨n, h⟩ else none

/-- R1, in its order of refusals: aisle, profile, the other fields. -/
def State.checkLoc (s : State) (l : RawLoc) : Except Result Loc :=
  match aisleNo? l.aisle with
  | none => .error .outOfRange
  | some a =>
    match (s.aisle a).profile with
    | none => .error .noProfile
    | some p =>
      match checkFields p a l.side l.bay l.level l.depth with
      | none => .error .outOfRange
      | some x => .ok x

/-- The partner of a location: the other depth of its lane (R1). -/
def Loc.partner (l : Loc) : Loc := { l with depth := match l.depth with | .near => .far | .far => .near }

/-! ## Clearance jobs (R24, R123, R124) -/

/-- R20: the id after an internal id. -/
def nextInternal (n : Nat) : Nat := if n = Config.lastId then Config.firstInternalId else n + 1

/-- R20: the first id from `n` on that is not live, among `k + 1` ids. -/
def State.freeInternal (s : State) : Nat → Nat → Nat
  | 0, n => n
  | k + 1, n => if s.isLive n then s.freeInternal k (nextInternal n) else n

/-- R20: the internal id of the next internal admission. -/
def State.newInternal (s : State) : Nat := s.freeInternal s.jtb.jobs.length s.jtb.internalId

/-- R21: the stamp after a stamp. -/
def nextStamp (n : Nat) : Nat := if n = Config.lastId then 1 else n + 1

/-- R19: whether a record is free. -/
def State.recordFree (s : State) : Bool := decide (s.jtb.jobs.length < Config.maxJobs)

/-- A record joins the table and the tail of its queue (R23, R34). -/
def State.addJob (s : State) (j : Job) : State :=
  { s with jtb := { s.jtb with
      jobs := s.jtb.jobs ++ [j]
      queues := s.jtb.queues.set j.queue (s.jtb.queues[j.queue] ++ [j.id]) } }

/-- The internal id counter after an id has been given (R20). -/
def State.gaveInternal (s : State) (id : Nat) : State :=
  { s with jtb := { s.jtb with internalId := nextInternal id } }

/-- The NEAR location of the lane a job's source stands in, when its source is a FAR location. -/
def Job.nearOfSource (j : Job) : Option Loc :=
  match j.source with
  | .loc l => if l.depth = .far then some l.partner else none
  | _ => none

/-- R24, R123: the clearance job of a parent at its creation. -/
def clearanceJob (id : JobId) (parent : Job) (near : Loc) (tag : Tag) : Job :=
  { id := id, kind := .clearance, aisle := parent.aisle, source := .loc near, dest := none, expTag := tag,
    urgency := parent.urgency, queue := parent.queue, group := none, run := none, parent := some parent.id,
    state := .waiting, waits := {}, crane := none, bump := Config.maxBumps, stamp := parent.stamp, readySince := none,
    tagRead := none, cancelReq := none, noteOccupied := false, noteLate := false }

/-- Whether a record is FULL, unlocked; it then has no holder (R2). -/
def LocRec.fullUnlocked (r : LocRec) : Option Tag :=
  match r.occ with
  | .full t => if r.locked then none else some t
  | _ => none

/-- R24, R123: the clearance job of a live parent is created; NEAR becomes OUTBOUND under it. -/
def Work.createClearance (w : Work) (parent : JobId) : Work :=
  match w.st.job? parent with
  | none => w
  | some p =>
    match p.nearOfSource with
    | none => w
    | some near =>
      match (w.st.loc near).fullUnlocked with
      | none => w
      | some tag =>
        let id := w.st.newInternal
        let w := w.onState (fun s => (s.addJob (clearanceJob id p near tag)).gaveInternal id)
        let w := w.onState (fun s => s.setLoc near { s.loc near with occ := .outbound tag id })
        w.makeReady id

/-- The live clearance job of a parent (R123); one that is ending is no longer live (R40). -/
def State.clearanceOf (s : State) (parent : JobId) : Option Job :=
  s.jtb.jobs.find? (fun j => j.kind = .clearance && j.parent == some parent && j.state ≠ .ended)

/-- R123, R124: a clearance request is taken at once, or waits when no record is free. A parent has at most one live clearance
job (R123). R123 holds that a live one keeps NEAR OUTBOUND; one whose return met PLACED OCCUPIED at NEAR has lost it, and
a request made then is left out until that job's end re-tests the parent (log entry 44). -/
def Work.requestClearance (w : Work) (parent : JobId) : Work :=
  if (w.st.clearanceOf parent).isSome then w
  else if w.st.recordFree then w.createClearance parent
  else if w.st.jtb.clearWait.contains parent then w
  else w.onState (fun s => { s with jtb := { s.jtb with clearWait := s.jtb.clearWait ++ [parent] } })

/-- R124: whether an entry of the clearance wait list is served. -/
def State.clearanceDue (s : State) (parent : JobId) : Bool :=
  match s.job? parent with
  | none => false
  | some p =>
    p.state = .waiting && p.waits.clearance && (s.clearanceOf parent).isNone &&
      match p.nearOfSource with
      | none => false
      | some near => (s.loc near).fullUnlocked.isSome

/-- R124: the list taken from its head: entries are dropped until one is served. -/
def Work.serveClearance (w : Work) : List JobId → Work
  | [] => w.onState (fun s => { s with jtb := { s.jtb with clearWait := [] } })
  | p :: rest =>
    if w.st.clearanceDue p then
      (w.onState (fun s => { s with jtb := { s.jtb with clearWait := rest } })).createClearance p
    else w.serveClearance rest

/-- R124, step 9 of R40: the retry at a freed record. -/
def Work.retryClearance (w : Work) : Work :=
  if w.st.recordFree then w.serveClearance w.st.jtb.clearWait else w

/-! ## Depth checks (R13, R14) -/

/-- R14: a FAR source job is re-tested against its NEAR partner. -/
def Work.retestFar (w : Work) (near : Loc) : Work :=
  match (w.st.loc near.partner).occ with
  | .outbound _ h =>
    match w.st.job? h with
    | none => w
    | some j =>
      if j.state.unstarted then
        match (w.st.loc near).occ with
        | .empty => w.delWait h .clearance
        | _ =>
          let w := w.addWait h .clearance
          if j.kind = .retrieve ∧ (w.st.loc near).fullUnlocked.isSome then w.requestClearance h else w
      else w
  | _ => w

/-- R126: the re-test of the parent in the end event of its clearance job, also where that job no longer holds NEAR. -/
def Work.retestParent (w : Work) (j : Job) : Work :=
  match j.kind, j.source with
  | .clearance, .loc near =>
    if j.parent.isSome ∧ (w.st.loc near.partner).occ.holder = j.parent ∧ (w.st.loc near).occ.holder = none then
      w.retestFar near
    else w
  | _, _ => w

/-- R13: a NEAR job's DEPTH reason ends. -/
def Work.clearDepth (w : Work) (near : Loc) : Work :=
  match (w.st.loc near).occ with
  | .inbound _ h => w.delWait h .depth
  | _ => w

/-- The depth checks on the partner of a location whose holder was `old` (R13, R14). -/
def Work.depthCheck (w : Work) (l : Loc) (old : Option JobId) : Work :=
  if old.isSome ∧ (w.st.loc l).occ.holder = none then
    match l.depth with
    | .far => w.clearDepth l.partner
    | .near => w.retestFar l
  else w

/-- A FULL FAR location behind an EMPTY, unlocked NEAR (R131). -/
def State.freesNear (s : State) (l : Loc) : Bool :=
  l.depth = .far && (s.loc l.partner).occ = .empty && !(s.loc l.partner).locked &&
    match (s.loc l).occ with
    | .full _ => true
    | _ => false

/-- An occupancy is written; the location-available notice is given when the location becomes EMPTY (R15). -/
def Work.writeOcc (w : Work) (l : Loc) (o : Occ) : Work :=
  let old := (w.st.loc l).occ
  let w := w.onState (fun s => s.setLoc l { s.loc l with occ := o })
  if o = .empty ∧ old ≠ .empty then w.noticeAvail l.aisle else w

/-- Several occupancies are written, and then the depth checks are made on the partners (R10: "the checks see the
released records"). -/
def Work.writeOccs (w : Work) (xs : List (Loc × Occ)) : Work :=
  let olds := xs.map (fun x => (x.1, (w.st.loc x.1).occ.holder))
  let w := xs.foldl (fun w x => w.writeOcc x.1 x.2) w
  olds.foldl (fun w x => w.depthCheck x.1 x.2) w

/-- The locations a job names: its source and its destination, without repeats. -/
def Job.locs (j : Job) : List Loc :=
  let src := match j.source with | .loc l => [l] | _ => []
  match j.dest with
  | some (.loc d) => if src.contains d then src else src ++ [d]
  | _ => src

/-- The locations of a job whose record has it as holder (R9: a record is changed only then). -/
def State.heldLocs (s : State) (j : Job) : List Loc := j.locs.filter (fun l => (s.loc l).occ.holder == some j.id)

/-- What a job's end does to a record that it holds. -/
inductive Release where
  /-- R9: INBOUND becomes FULL with the tag read, OUTBOUND becomes EMPTY -/
  | complete
  /-- R10: INBOUND becomes EMPTY, OUTBOUND becomes FULL with the recorded tag -/
  | giveBack
  /-- R11: FETCHED EMPTY: both become EMPTY -/
  | emptied
  /-- R11, R9: a wrong-tag load put into its own source, which becomes FULL with the tag read: OUTBOUND still, at the return
  of R75, or INBOUND again, where the return met PLACED OCCUPIED and place selection chose the source later (R77, R78) -/
  | returned
  /-- R12: both become UNKNOWN -/
  | lost
deriving DecidableEq, Repr

/-- The occupancy a held record takes at a release; `tag` is the tag read. -/
def releaseOcc (rel : Release) (tag : Tag) : Occ → Occ
  | .inbound _ _ =>
    match rel with
    | .complete => .full tag
    | .giveBack => .empty
    | .emptied => .empty
    | .returned => .full tag
    | .lost => .unknown
  | .outbound t _ =>
    match rel with
    | .complete => .empty
    | .giveBack => .full t
    | .emptied => .empty
    | .returned => .full tag
    | .lost => .unknown
  | o => o

/-- Whether an occupancy is INBOUND. -/
def Occ.isInbound : Occ → Bool
  | .inbound _ _ => true
  | _ => false

/-- R131: the notice for each FAR location that became FULL while its NEAR is EMPTY and unlocked. -/
def Work.farNotices (w : Work) (ls : List Loc) : Work :=
  ls.foldl (fun w l => if w.st.freesNear l then w.noticeAvail l.aisle else w) w

/-- The records a job holds are released, with their notices and depth checks (R9–R15). The notices of R131 are those of R9:
for INBOUND records that became FULL (log entry 21). -/
def Work.releaseLocs (w : Work) (j : Job) (rel : Release) : Work :=
  let ls := w.st.heldLocs j
  let tag := tagOr0 j.tagRead
  let filled := ls.filter (fun l => (w.st.loc l).occ.isInbound)
  (w.writeOccs (ls.map (fun l => (l, releaseOcc rel tag (w.st.loc l).occ)))).farNotices filled

/-- R11: a location destination that is INBOUND under the job becomes EMPTY. -/
def Work.releaseDest (w : Work) (j : Job) : Work :=
  match j.dest with
  | some (.loc d) =>
    match (w.st.loc d).occ with
    | .inbound _ h => if h = j.id then w.writeOccs [(d, .empty)] else w
    | _ => w
  | _ => w

/-! ## Place selection (R128–R130) -/

/-- R128: whether a location of the aisle is a candidate, apart from the rail. -/
def State.isCandidate (s : State) (p : Profile) (role : Role) (l : Loc) : Bool :=
  inReach p role l.bay && (s.loc l).occ = .empty && !(s.loc l).locked &&
    (!p.doubleDeep ||
      match l.depth with
      | .far => (s.loc l.partner).occ = .empty && !(s.loc l.partner).locked
      | .near =>
        match (s.loc l.partner).occ with
        | .full _ => true
        | _ => false)

/-- The locations of one bay and level in the rank order of R129: LEFT before RIGHT, FAR before NEAR. -/
def lanePlaces (p : Profile) (a : AisleNo) (bay level : Nat) : List Loc :=
  let depths : List Depth := if p.doubleDeep then [.far, .near] else [.near]
  [Side.left, Side.right].flatMap (fun sd =>
    depths.map (fun d => { aisle := a, side := sd, bay := bay, level := level, depth := d }))

/-- The numbers 1..n. -/
def oneTo (n : Nat) : List Nat := (List.range n).map (· + 1)

/-- The locations of an aisle in the order of keys 2 to 5 of R129. -/
def aislePlaces (p : Profile) (a : AisleNo) : List Loc :=
  (oneTo p.bays).flatMap (fun b => (oneTo p.levels).flatMap (fun l => lanePlaces p a b l))

/-- Of two ranked candidates, the one with the smaller estimate, the earlier one on a tie. -/
def closer (best : Option (Ms × Loc)) (x : Ms × Loc) : Option (Ms × Loc) :=
  match best with
  | none => some x
  | some b => if x.1 < b.1 then some x else some b

/-- R128, R129: place selection for a crane from a start point, each candidate tested by `ok` (R101). -/
def State.selectPlace (s : State) (c : CraneNo) (start : Option Point) (ok : Loc → Bool) : Option Loc :=
  let p := s.craneProf c
  let found := (aislePlaces p (aisleOf c)).filter (fun l => s.isCandidate p (s.crane c).role l && ok l)
  (found.foldl (fun best l => closer best (fromPosition p start (l.bay, l.level), l)) none).map Prod.snd

/-- R101, R130: the uses at a standing point: plain test of the hull of the standing point's bay and the target. -/
def State.selectFrom (s : State) (c : CraneNo) (standing : Place) : Option Loc :=
  let p := s.craneProf c
  let x := standing.point p
  s.selectPlace c (some x) (fun l => s.plainTest c (hull2 x.1 l.bay))

/-- R101, R130: the resolution after a reference run: from the reference bay, reach only. -/
def State.selectFromRef (s : State) (c : CraneNo) : Option Loc :=
  let p := s.craneProf c
  s.selectPlace c (some (refBay p (s.crane c).role, 0)) (fun _ => true)

/-- R8, R129: the chosen target becomes INBOUND under the job with a tag, and becomes its destination. -/
def Work.takePlace (w : Work) (id : JobId) (l : Loc) (tag : Tag) : Work :=
  (w.writeOcc l (.inbound tag id)).mapJob id (fun x => { x with dest := some (.loc l) })

end Sys2Proof.Machine
end

