-- ==== Sys2Proof/Machine/Stations.lean ====
section
/-! DEFINITION. Stations and collector: the infeed claim (R154, R155), the removal of an infeed head (R153), the collector
arbiter (R165). Sequence groups: readiness (R160), advance (R161), end (R162). -/

namespace Sys2Proof.Machine

/-! ## The infeed claim -/

/-- R154, case 2: the states in which a STORE keeps the claim. FETCH is among them, since the job stays the claimant
"until it fetches", and the head is removed "for the job that holds the claim" (R153) (log entry 15). -/
def JobState.holdsClaim : JobState → Bool
  | .promised => true
  | .lead => true
  | .fetch => true
  | .stranded .fetch => true
  | _ => false

/-- Of two jobs, the one with the older submit stamp (R21). -/
def olderJob (best : Option Job) (x : Job) : Option Job :=
  match best with
  | none => some x
  | some b => if older x.stamp b.stamp then some x else some b

/-- The job with the oldest submit stamp. -/
def oldest (js : List Job) : Option Job := js.foldl olderJob none

/-- R154, case 3: the claimant of a head among WAITING and READY STORE jobs. -/
def freeClaimant (stores : List Job) (head : InLoad) : Option JobId :=
  match oldest (stores.filter (fun j => j.expTag ≠ 0 ∧ j.expTag = head.tag)) with
  | some j => some j.id
  | none => (oldest (stores.filter (fun j => j.expTag = 0))).map Job.id

/-- The STORE jobs of an aisle. -/
def State.storesOf (s : State) (a : AisleNo) : List Job :=
  s.jtb.jobs.filter (fun j => j.kind = .store ∧ j.aisle = a)

/-- R154, case 2: whether a STORE keeps the claim: until its load has left the infeed. A job that a resolution with a load
sensed left STRANDED in FETCH has fetched it (R84, log entry 18). -/
def State.keepsClaim (s : State) (j : Job) : Bool := j.state.holdsClaim && !s.jtb.headTaken.contains j.id

/-- R154: the claim of an infeed. -/
def State.claimant (s : State) (a : AisleNo) : Option JobId :=
  match (s.station a).infeed with
  | [] => none
  | head :: _ =>
    match (s.storesOf a).find? s.keepsClaim with
    | some j => some j.id
    | none => freeClaimant ((s.storesOf a).filter (fun j => j.state.unstarted)) head

/-- R155: LOAD is removed from the claimant and added to every other STORE of the aisle in WAITING or READY. -/
def Work.evalClaim (w : Work) (a : AisleNo) : Work :=
  let cl := w.st.claimant a
  ((w.st.storesOf a).filter (fun j => j.state.unstarted)).foldl
    (fun w j => if cl = some j.id then w.delWait j.id .load else w.addWait j.id .load) w

/-! ## Groups -/

/-- Whether a position lets next release pass over it (R161). -/
def Position.passed : Position → Bool
  | .released => true
  | .void => true
  | _ => false

/-- R160, conditions 3 and 4, for one position below a member of aisle `a`. -/
def Position.lets (a : AisleNo) : Position → Bool
  | .free => false
  | .spawnPending _ => false
  | .known _ b placed => b ≠ a || placed
  | .void => true
  | .released => true

/-- R160: the readiness conditions of a member at position `k` of a group, in aisle `a`. -/
def Group.lets (g : Group) (active : Bool) (k : Nat) (a : AisleNo) : Bool :=
  active && decide (k < g.next + g.window) && (g.positions.take (k - 1)).all (Position.lets a)

/-- Whether a group is the ACTIVE one (R158). -/
def State.isActive (s : State) (gid : GroupId) : Bool := (s.activeGroup.map Group.id) == some gid

/-- The position of a group's record (R158). -/
def Group.position? (g : Group) (k : Nat) : Option Position := if k = 0 then none else g.positions[k - 1]?

/-- R161: next release after at most `fuel` advances. -/
def advanceFrom (ps : List Position) (count : Nat) : Nat → Nat → Nat
  | 0, n => n
  | fuel + 1, n =>
    if 1 ≤ n ∧ n ≤ count ∧ ((ps[n - 1]?).map Position.passed) = some true then advanceFrom ps count fuel (n + 1) else n

/-- R161: a group with next release advanced. -/
def Group.advanced (g : Group) : Group := { g with next := advanceFrom g.positions g.count (g.count + 1) g.next }

/-- The members of a group that hold GROUP. -/
def State.waitingMembers (s : State) (gid : GroupId) : List Job :=
  s.jtb.jobs.filter (fun j => j.waits.group && (j.group.map Prod.fst) == some gid)

/-- R160: the members of a group that hold GROUP are re-tested. -/
def Work.retestGroup (w : Work) (gid : GroupId) : Work :=
  match w.st.group? gid with
  | none => w
  | some g =>
    let active := w.st.isActive gid
    (w.st.waitingMembers gid).foldl
      (fun w j =>
        match j.group with
        | some (_, k) => if g.lets active k j.aisle then w.delWait j.id .group else w
        | none => w) w

/-- The record of a group removed; when it was ACTIVE, the next becomes ACTIVE and its members are re-tested (R162,
R163). -/
def Work.removeGroup (w : Work) (gid : GroupId) : Work :=
  let wasActive := w.st.isActive gid
  let w := w.onState (fun s => { s with groups := s.groups.filter (fun g => g.id != gid) })
  if wasActive then
    match w.st.activeGroup with
    | some g => w.retestGroup g.id
    | none => w
  else w

/-- R162: the end test: a group whose next release exceeds its count ends COMPLETE. -/
def Work.endGroupIfDone (w : Work) (gid : GroupId) : Work :=
  match w.st.group? gid with
  | none => w
  | some g =>
    if g.count < g.next then ((w.report (.groupEnded gid .complete)).removeGroup gid).askRelease else w

/-- R159: what follows every change of a group's record: the advance (R161), the re-test (R160), the end test (R162) and
a release decision (R165). -/
def Work.groupChanged (w : Work) (gid : GroupId) : Work :=
  (((w.onState (fun s => s.mapGroup gid Group.advanced)).retestGroup gid).endGroupIfDone gid).askRelease

/-- One position of a group written. -/
def Group.setPosition (g : Group) (k : Nat) (p : Position) : Group :=
  { g with positions := g.positions.set (k - 1) p }

/-- R159: a position changes, and what follows. -/
def Work.setPosition (w : Work) (gid : GroupId) (k : Nat) (p : Position) : Work :=
  (w.onState (fun s => s.mapGroup gid (fun g => g.setPosition k p))).groupChanged gid

/-- R159: PLACED OK of a member at the outfeed. -/
def Work.memberPlaced (w : Work) (j : Job) : Work :=
  match j.group with
  | some (gid, k) => w.setPosition gid k (.known (some j.id) j.aisle true)
  | none => w

/-- R159, step 4 of R40: the end of a member. -/
def Work.memberEnded (w : Work) (j : Job) (o : JobOutcome) (cause : Option JobCause) : Work :=
  match j.group with
  | none => w
  | some (gid, k) =>
    if o = .completed then w.setPosition gid k (.known none j.aisle true)
    else if cause = some .groupCancelled then w
    else w.setPosition gid k .void

/-! ## Runs: stop and end (R144, R146) -/

/-- R146: RUN-ENDED is queued and the record is freed. -/
def Work.finishRun (w : Work) (id : RunId) : Work :=
  match w.st.run? id with
  | none => w
  | some r =>
    let w := w.report (.runEnded id (r.cause.getD .request) r.completed r.failed r.skipped r.toSpawn)
    w.onState (fun s => { s with rnu := { s.rnu with runs := s.rnu.runs.filter (fun x => x.id != id) } })

/-- R144: the positions from `k` on, `n` of them, that are SPAWN-PENDING for the run become VOID. -/
def voidPending (run : RunId) (k n : Nat) (g : Group) : Group :=
  (List.range n).foldl
    (fun g i => if g.position? (k + i) = some (.spawnPending run) then g.setPosition (k + i) .void else g) g

/-- R144: a run stops; a cause that arises later does not replace the first one. A run without live children ends after
every report of the event (R146). The pointer is left as it stands: R139 has a run stopped for a cause other than EDGE keep
it, where the table of R136 has it present until the run stops (log entry 47). -/
def Work.stopRun (w : Work) (id : RunId) (cause : RunCause) : Work :=
  match w.st.run? id with
  | none => w
  | some r =>
    if r.cause.isSome then w
    else
      let w := w.mapRun id (fun x => { x with cause := some cause })
      let w := match r.group with
        | none => w
        | some g =>
          (w.onState (fun s => s.mapGroup g.id (voidPending id g.next (g.last + 1 - g.next)))).groupChanged g.id
      if r.live = 0 then { w with runEnds := w.runEnds ++ [id] } else w

/-- R153: the head of an infeed is removed for a job; a last-load mark stops the run of a run child (R143). The head of a job
is removed once: one that a resolution has removed is not there any more (log entry 18). -/
def Work.popInfeed (w : Work) (j : Job) (handMark : Bool) : Work :=
  if w.st.jtb.headTaken.contains j.id then w
  else
    match (w.st.station j.aisle).infeed with
    | [] => w
    | head :: rest =>
      let w := (w.mapStation j.aisle (fun x => { x with infeed := rest })).claimDue j.aisle
      if handMark ∧ head.mark = true then
        match j.run with
        | some r => w.stopRun r .mark
        | none => w
      else w

/-! ## The collector arbiter (R165) -/

/-- The head of an outfeed. -/
def State.outHead (s : State) (a : AisleNo) : Option OutLoad := (s.station a).outfeed.head?

/-- Whether a load is the next release of the ACTIVE group. -/
def State.isNextRelease (s : State) (x : OutLoad) : Bool :=
  match x.member, s.activeGroup with
  | some (gid, k), some g => gid == g.id && k == g.next
  | _, _ => false

/-- The aisles in cyclic order from a start. -/
def aislesFrom (a : AisleNo) : List AisleNo := allAisles.map (fun i => a + i)

/-- R165: the winner of a release decision, and whether it is unsequenced. -/
def State.releaseWinner (s : State) : Option (AisleNo × Bool) :=
  match allAisles.find? (fun a => (s.outHead a).any s.isNextRelease) with
  | some a => some (a, false)
  | none =>
    ((aislesFrom s.stu.rotation).find? (fun a => (s.outHead a).any (fun x => x.member.isNone))).map (fun a => (a, true))

/-- R165: whether a release may be made. -/
def State.mayRelease (s : State) : Bool :=
  s.stu.collector = .ready && allAisles.all (fun a => !(s.station a).releasing)

/-- R165: a release decision. -/
def Work.releaseDecision (w : Work) : Work :=
  if w.st.mayRelease then
    match w.st.releaseWinner with
    | none => w
    | some (a, unsequenced) =>
      let w := (w.stationOrder (.release a)).mapStation a (fun x => { x with releasing := true })
      w.onState (fun s =>
        { s with stu := { s.stu with
            collector := .busy
            rotation := if unsequenced then a + 1 else s.stu.rotation } })
  else w

end Sys2Proof.Machine
end

