-- ==== Sys2Proof/Machine/Jobs.lean ====
section
/-! DEFINITION. Admission (R5–R8, R19, R23, R24, R88), the end of a job in the nine steps of R40 with its end report (R41,
R133, R134), and the cancel of a job that has not started (R36) or whose crane holds (R37), or travels (R38). -/

namespace Sys2Proof.Machine

/-! ## Checks 7 and 8 of admission -/

/-- R88, check 7: whether a crane permitted to serve the kind reaches both ends. -/
def reachable (p : Profile) (kind : JobKind) (source : Place) (dest : Option Place) : Bool :=
  if p.craneCount = 1 then true
  else
    match kind, source, dest with
    | .store, _, some (.loc d) => decide (p.separation ≤ d.bay)
    | .retrieve, .loc x, _ => decide (x.bay + p.separation ≤ p.bays + 1)
    | .relocate, .loc x, some (.loc d) =>
      (inReach p .front x.bay && inReach p .front d.bay) || (inReach p .rear x.bay && inReach p .rear d.bay)
    | _, _, _ => true

/-- What the depth rules give a job that check 8 admits: the wait reasons it starts with, and whether a clearance job is
requested. -/
structure DepthWaits where
  depth : Bool := false
  clearance : Bool := false
  request : Bool := false
deriving DecidableEq, Repr

/-- R5, R6: a location named as a destination; `none` is LOCATION-CONFLICT. -/
def State.destCheck (s : State) (p : Profile) (d : Loc) : Option DepthWaits :=
  let r := s.loc d
  if r.occ = .empty ∧ r.locked = false then
    if p.doubleDeep then
      match d.depth with
      | .far => if (s.loc d.partner).occ = .empty then some {} else none
      | .near => some { depth := (s.loc d.partner).occ.holder.isSome }
    else some {}
  else none

/-- R7: a FAR source against its NEAR partner. -/
def farSource (near : LocRec) (kind : JobKind) : Option DepthWaits :=
  match near.occ with
  | .empty => some {}
  | .full _ => if near.locked = false ∧ kind = .retrieve then some { clearance := true, request := true } else none
  | .inbound _ _ => if kind = .retrieve then some { clearance := true } else none
  | .outbound _ _ => if kind = .retrieve then some { clearance := true } else none
  | .unknown => none

/-- R5, R7: a location named as a source. -/
def State.sourceCheck (s : State) (p : Profile) (kind : JobKind) (x : Loc) : Option DepthWaits :=
  if (s.loc x).fullUnlocked.isSome then
    if p.doubleDeep ∧ x.depth = .far then farSource (s.loc x.partner) kind else some {}
  else none

/-- Whether two locations stand in one lane (R5). -/
def sameLane (x y : Loc) : Bool := x = y || x = y.partner

/-- Check 8 of admission (R5–R7). -/
def State.check8 (s : State) (p : Profile) (kind : JobKind) (source : Place) (dest : Option Place) :
    Option DepthWaits :=
  match source, dest with
  | .loc x, some (.loc d) =>
    if sameLane x d then none
    else
      match s.sourceCheck p kind x, s.destCheck p d with
      | some a, some b => some { depth := b.depth, clearance := a.clearance, request := a.request }
      | _, _ => none
  | .loc x, _ => s.sourceCheck p kind x
  | _, some (.loc d) => s.destCheck p d
  | _, _ => some {}

/-! ## Admission -/

/-- R8, admission: a source becomes OUTBOUND, a destination INBOUND under the job. -/
def Work.reserveLocs (w : Work) (j : Job) : Work :=
  let w := match j.source with
    | .loc x =>
      match (w.st.loc x).occ with
      | .full t => w.writeOcc x (.outbound t j.id)
      | _ => w
    | _ => w
  match j.dest with
  | some (.loc d) => w.writeOcc d (.inbound j.expTag j.id)
  | _ => w

/-- R23, steps 1 to 6, and 8: a prepared record is admitted with the wait reasons of its kind, group and depth. The
record joins as WAITING with every reason it may start with; the owners then remove those that do not hold. -/
def Work.admitJob (w : Work) (j : Job) (d : DepthWaits) : Work :=
  let waits : Waits :=
    { load := decide (j.kind = .store), group := j.group.isSome, depth := d.depth, clearance := d.clearance }
  let w := w.onState (fun s =>
    let s := s.addJob { j with state := .waiting, waits := waits, stamp := s.jtb.stamp }
    { s with jtb := { s.jtb with stamp := nextStamp s.jtb.stamp } })
  let w := w.reserveLocs j
  let w := match j.group with
    | some (gid, k) => w.setPosition gid k (.known (some j.id) j.aisle false)
    | none => w
  let w := if j.kind = .store then w.evalClaim j.aisle else w
  let w := if waits.isEmpty then w.makeReady j.id else w
  if d.request then w.requestClearance j.id else w

/-! ## The end of a job (R40) -/

/-- Step 5: RNU counts a child's outcome, and applies stop-on-failure (R143). -/
def Work.countChild (w : Work) (j : Job) (o : JobOutcome) : Work :=
  match j.run with
  | none => w
  | some rid =>
    let w := w.mapRun rid (fun r =>
      { r with live := r.live - 1,
               completed := if o = .completed then r.completed + 1 else r.completed,
               failed := if o = .completed then r.failed else r.failed + 1 })
    match w.st.run? rid with
    | some r => if o = .failed ∧ r.stopOnFailure = true then w.stopRun rid .fault else w
    | none => w

/-- Step 6: the crane's job field is dropped, with the standing point and the place leg kept for it (R55). -/
def Work.dropCraneJob (w : Work) (j : Job) : Work :=
  match j.crane with
  | none => w
  | some c =>
    if (w.st.crane c).job = some j.id then
      (w.mapCrane c (fun x => { x with job := none, standing := none, leg := none })).closeDue (aisleOf c)
    else w

/-- The parent of an ending job, when it is live (R41, R133). -/
def State.liveParent (s : State) (j : Job) : Option JobId := j.parent.filter s.isLive

/-- Step 7: the end report (R41), a COMPLETED clearance job's LOAD-MOVED (R133), and the DISPOSAL report before the
end report (R134), whose note OCCUPIED stands for a disposal target found occupied alone (log entry 45). -/
def Work.reportEnd (w : Work) (j : Job) (o : JobOutcome) (cause : Option JobCause) (final : Option Loc) : Work :=
  let parent := w.st.liveParent j
  if o = .completed ∧ j.kind = .clearance then
    w.report (.loadMoved { id := j.id, parent := parent, reason := .clearance, tag := tagOr0 j.tagRead,
                           aisle := j.aisle, source := j.source, target := final, noteOccupied := j.noteOccupied })
  else
    let w :=
      if cause = some .tagMismatch ∧ final ≠ none ∧ final.map Place.loc ≠ some j.source then
        w.report (.loadMoved { id := j.id, parent := none, reason := .disposal, tag := tagOr0 j.tagRead,
                               aisle := j.aisle, source := j.source, target := final,
                               noteOccupied := w.st.jtb.targetOccupied.contains j.id })
      else w
    w.report (.jobEnded { id := j.id, parent := parent, run := j.run, outcome := o, cause := cause, crane := j.crane,
                          tagRead := j.tagRead, final := final, noteOccupied := j.noteOccupied,
                          noteLate := j.noteLate })

/-- R146: a stopped run whose last live child has ended ends after the child's end report, or after every report of an
END-RUN or a stop event. -/
def Work.endRunIfDone (w : Work) (j : Job) : Work :=
  match j.run with
  | none => w
  | some rid =>
    match w.st.run? rid with
    | none => w
    | some r =>
      if r.cause.isSome ∧ r.live = 0 then
        if w.deferRuns then { w with runEnds := w.runEnds ++ [rid] } else w.finishRun rid
      else w

/-- The facts that the model's own lists hold of a job are dropped. -/
def Jtb.forget (t : Jtb) (id : JobId) : Jtb :=
  { t with mismatched := t.mismatched.filter (fun i => i != id),
           targetOccupied := t.targetOccupied.filter (fun i => i != id),
           headTaken := t.headTaken.filter (fun i => i != id) }

/-- Step 8: the reference leaves its queue, the record is freed, a clearance job's parent field naming it is dropped
(R36), and the job leaves the clearance wait list (R124). -/
def State.freeJob (s : State) (j : Job) : State :=
  { s with jtb := { s.jtb.forget j.id with
      jobs := (s.jtb.jobs.filter (fun x => x.id != j.id)).map
        (fun x => if x.parent = some j.id then { x with parent := none } else x)
      queues := s.jtb.queues.set j.queue (s.jtb.queues[j.queue].filter (fun i => i != j.id))
      clearWait := s.jtb.clearWait.filter (fun i => i != j.id) } }

/-- R155: whether the end of a job is an event at which the infeed claim is evaluated. -/
def Job.endsClaim (j : Job) : Bool := j.kind = .store && (j.state.unstarted || j.state.holdsClaim)

/-- R40: a job ends, in its nine steps. -/
def Work.endJob (w : Work) (id : JobId) (o : JobOutcome) (cause : Option JobCause) (rel : Release)
    (final : Option Loc) : Work :=
  match w.st.job? id with
  | none => w
  | some j =>
    let w := w.mapJob id (fun x => { x with state := .ended })
    let w := (w.releaseLocs j rel).retestParent j
    let w := w.unreserve j
    let w := w.memberEnded j o cause
    let w := w.countChild j o
    let w := w.dropCraneJob j
    let w := w.reportEnd j o cause final
    let w := w.endRunIfDone j
    let w := w.onState (fun s => s.freeJob j)
    let w := w.retryClearance
    let w := if j.endsClaim then w.claimDue j.aisle else w
    { w with jobEnded := true }

/-! ## Cancels -/

/-- The cause a cancel request gives (R38). -/
def CancelBy.cause : CancelBy → JobCause
  | .host => .host
  | .groupCancelled => .groupCancelled

/-- R37: a cancel of a job in LEAD whose crane is in HOLD. -/
def Work.cancelHold (w : Work) (id : JobId) (c : CraneNo) (by_ : CancelBy) : Work :=
  (w.endJob id .cancelled (some by_.cause) .giveBack none).enter c .idle

/-- R38: the cancel request is set and ABORT is sent. -/
def Work.startAbort (w : Work) (id : JobId) (c : CraneNo) (by_ : CancelBy) : Work :=
  let w := w.mapJob id (fun x => { x with cancelReq := some by_ })
  (w.mapCrane c (fun x => { x with order := .abort })).order c .abort

/-- R36: the clearance job of a cancelled parent, by its own state. -/
def Work.cancelClearance (w : Work) (j : Job) (by_ : CancelBy) : Work :=
  if j.state.unstarted then w.endJob j.id .cancelled (some by_.cause) .giveBack none
  else
    match j.state, j.crane with
    | .lead, some c =>
      if (w.st.crane c).state = .hold then w.cancelHold j.id c by_
      else if (w.st.crane c).state = .lead ∧ (w.st.crane c).order = .none then w.startAbort j.id c by_
      else w
    | _, _ => w

/-- R36: a cancel of a job in WAITING or READY, and of its clearance job. -/
def Work.cancelUnstarted (w : Work) (id : JobId) (by_ : CancelBy) : Work :=
  let child := w.st.clearanceOf id
  let w := w.endJob id .cancelled (some by_.cause) .giveBack none
  match child with
  | some k => w.cancelClearance k by_
  | none => w

end Sys2Proof.Machine
end

