-- ==== Sys2Proof/Machine/Spawn.lean ====
section
/-! DEFINITION. Spawning of run children: the location pointer (R139), the test of a location (R140), a spawn (R141), the
attempts and their rotation (R142). -/

namespace Sys2Proof.Machine

/-- The first depth of the visit order of a lane, with the lane option in a double-deep aisle (R139). -/
def laneFirst : RunKind → Depth
  | .store => .far
  | .retrieve => .near

/-- R139: whether the visit order of a lane has two depths. -/
def Run.wholeLane (p : Profile) (r : Run) : Bool := r.lane && p.doubleDeep

/-- R139: the step to the next lane; `none` when it would pass Bmax or Lmax. -/
def stepLane (p : Profile) (step : RunStep) (l : Loc) : Option Loc :=
  match step with
  | .bay => if l.bay < p.bays then some { l with bay := l.bay + 1 } else none
  | .level => if l.level < p.levels then some { l with level := l.level + 1 } else none

/-- R139: the pointer after a visit. -/
def Run.nextPointer (p : Profile) (r : Run) (l : Loc) : Option Loc :=
  if r.wholeLane p then
    if l.depth = laneFirst r.kind then some l.partner
    else stepLane p r.step { l with depth := laneFirst r.kind }
  else stepLane p r.step l

/-- The job kind of a run's children. -/
def RunKind.jobKind : RunKind → JobKind
  | .store => .store
  | .retrieve => .retrieve

/-- The source of a child at a location (R141). -/
def RunKind.source (k : RunKind) (l : Loc) : Place :=
  match k with
  | .store => .infeed
  | .retrieve => .loc l

/-- The destination of a child at a location (R141). -/
def RunKind.dest (k : RunKind) (l : Loc) : Place :=
  match k with
  | .store => .loc l
  | .retrieve => .outfeed

/-- R140: a location suits the run when a child naming it would pass checks 7 to 10 of R22; the result is what the depth
rules give the child. -/
def State.suits (s : State) (r : Run) (l : Loc) : Option DepthWaits :=
  let p := s.prof r.aisle
  if reachable p r.kind.jobKind (r.kind.source l) (some (r.kind.dest l)) then
    s.check8 p r.kind.jobKind (r.kind.source l) (some (r.kind.dest l))
  else none

/-- R141: whether a run may spawn. -/
def State.maySpawn (s : State) (r : Run) : Bool :=
  r.cause.isNone && decide (0 < r.toSpawn) && decide (r.live < r.window) && s.recordFree && r.pointer.isSome

/-- R24, R141: the child of a run at a location. -/
def childJob (id : JobId) (r : Run) (l : Loc) : Job :=
  { id := id, kind := r.kind.jobKind, aisle := r.aisle, source := r.kind.source l, dest := some (r.kind.dest l),
    expTag := 0, urgency := r.urgency, queue := r.queue, group := r.group.map (fun g => (g.id, g.next)),
    run := some r.id, parent := none, state := .waiting, waits := {}, crane := none, bump := 0, stamp := 0,
    readySince := none, tagRead := none, cancelReq := none, noteOccupied := false, noteLate := false }

/-- R139, R144: the pointer moves on; past the edge the run stops with cause EDGE. -/
def Work.movePointer (w : Work) (r : Run) (l : Loc) : Work :=
  let next := r.nextPointer (w.st.prof r.aisle) l
  let w := w.mapRun r.id (fun x => { x with pointer := next })
  if next.isNone then w.stopRun r.id .edge else w

/-- R141: a spawn at the pointer. -/
def Work.spawn (w : Work) (r : Run) (l : Loc) (d : DepthWaits) : Work :=
  let id := w.st.newInternal
  let w := w.mapRun r.id (fun x =>
    { x with toSpawn := x.toSpawn - 1, live := x.live + 1,
             group := x.group.map (fun g => { g with next := g.next + 1 }) })
  let w := w.onState (fun s => s.gaveInternal id)
  let w := w.admitJob (childJob id r l) d
  if r.toSpawn ≤ 1 then w.stopRun r.id .countedOut else w.movePointer r l

/-- R140: a location that does not suit is skipped. -/
def Work.skip (w : Work) (r : Run) (l : Loc) : Work :=
  (w.mapRun r.id (fun x => { x with skipped := x.skipped + 1 })).movePointer r l

/-- Visits of one run until it has spawned a child, has stopped, or can no longer spawn (R140, R142); the flag says
whether it spawned. A run visits at most 192 locations (R136), so the fuel of its callers is enough. -/
def Work.visits : Nat → Work → RunId → Work × Bool
  | 0, w, _ => (w, false)
  | fuel + 1, w, id =>
    match w.st.run? id with
    | none => (w, false)
    | some r =>
      match r.pointer with
      | none => (w, false)
      | some l =>
        if w.st.maySpawn r then
          match w.st.suits r l with
          | some d => (w.spawn r l d, true)
          | none => Work.visits fuel (w.skip r l) id
        else (w, false)

/-- The fuel of a run's visits. -/
def visitFuel : Nat := 256

/-- The marker is set to a run that spawns (R142). -/
def Work.setMarker (w : Work) (id : RunId) : Work :=
  w.onState (fun s => { s with rnu := { s.rnu with marker := some id } })

/-- R138: the attempt of a new run: visits as far as its window, its counter and the table permit. -/
def Work.fillRun : Nat → Work → RunId → Work
  | 0, w, _ => w
  | fuel + 1, w, id =>
    match Work.visits visitFuel w id with
    | (w, true) => Work.fillRun fuel (w.setMarker id) id
    | (w, false) => w

/-- R142: the ring of the live runs, starting after the marker. -/
def ringFrom (ids : List RunId) (marker : Option RunId) : List RunId :=
  match marker with
  | none => ids
  | some m =>
    if ids.contains m then
      (ids.dropWhile (fun i => i != m)).tail ++ ids.takeWhile (fun i => i != m) ++ [m]
    else ids

/-- One round of the ring; the flag says whether a run spawned. -/
def Work.ringRound : List RunId → Work → Bool → Work × Bool
  | [], w, any => (w, any)
  | id :: rest, w, any =>
    match Work.visits visitFuel w id with
    | (w, true) => Work.ringRound rest (w.setMarker id) true
    | (w, false) => Work.ringRound rest w any

/-- Rounds of the ring while any run spawns. A window is at most 4 (R136), so the fuel of the caller is enough. -/
def Work.ringRounds : Nat → Work → List RunId → Work
  | 0, w, _ => w
  | fuel + 1, w, ring =>
    match Work.ringRound ring w false with
    | (w, true) => Work.ringRounds fuel w ring
    | (w, false) => w

/-- R142: the attempt of a record-free notice. -/
def Work.spawnAll (w : Work) : Work :=
  Work.ringRounds 8 w (ringFrom (w.st.rnu.runs.map Run.id) w.st.rnu.marker)

end Sys2Proof.Machine
end

