-- ==== Sys2Proof/Machine/AisleStops.lean ====
section
/-! DEFINITION. What stops an aisle's cranes: the adoption of a schedule (R119), entry into OFFLINE (R57), the failure of
a FULL start (R179), the lockout with its jobs (R182, R183), which a failed release repeats (R186). -/

namespace Sys2Proof.Machine

/-- R119: the changes of an adoption in the aisle record. -/
def Aisle.adopted (x : Aisle) : Aisle :=
  { x with active := x.pendingCopy, wheelPtr := 0, rot1Ptr := 0, rot2Ptr := 0, marked := false }

/-- R119: adoption, and its report. -/
def Work.adopt (w : Work) (a : AisleNo) : Work := (w.mapAisle a Aisle.adopted).report (.scheduleAdopted a)

/-- R119: an aisle whose pending copy is marked adopts it on leaving OPEN. -/
def Work.leaveOpen (w : Work) (a : AisleNo) : Work :=
  if (w.st.aisle a).state = .opened ∧ (w.st.aisle a).marked = true then w.adopt a else w

/-- A link's proving is abandoned: its error count, frame and echo deadline are dropped (R175, R179). -/
def Work.abandonProving (w : Work) (c : CraneNo) : Work := w.onState (fun s => s.setProving c .reset)

/-- A link's status is written; CRANE-STATE is queued when it changes (R56). -/
def Work.setLink (w : Work) (c : CraneNo) (l : Link) : Work :=
  if (w.st.crane c).link = l then w else (w.mapCrane c (fun x => { x with link := l })).reportCrane c

/-- R57, column "Entry into OFFLINE when the aisle becomes CLOSED", apart from the state. -/
def Crane.closedValues (x : Crane) : Crane :=
  { x with pos := none, standing := none, span := none, job := none, promised := none, order := .none, leg := none,
           move := none, carryPending := false, link := .unproven, motionDeadline := none, fault := none }

/-- A crane enters OFFLINE with the values of R57; the report carries the fault cause given (R179). -/
def Work.goOffline (w : Work) (c : CraneNo) (fault : Option FaultCause) : Work :=
  let w := w.onState (·.setClaim c none)
  (w.mapCrane c Crane.closedValues).enterAs c .offline fault

/-- R179: the failure of a FULL start. -/
def Work.failFull (w : Work) (a : AisleNo) (cause : StartFailure) : Work :=
  let present := w.st.presentOf a
  let w := present.foldl (fun w c =>
    let w := w.abandonProving c
    if (w.st.crane c).link = .failed then w else w.setLink c .unproven) w
  let w := present.foldl (fun w c => if (w.st.crane c).state = .reference then w.sendStop c else w) w
  let w := present.foldl (fun w c =>
    if (w.st.crane c).state = .offline then w else w.goOffline c (w.st.crane c).fault) w
  (w.mapAisle a (fun x => { x with state := .closed, start := none })).reportAisle a (some cause)

/-- R28, R27, R38: a job past LEAD becomes STRANDED: its place reasons are removed, and a cancel request becomes note
LATE-CANCEL. -/
def Work.strand (w : Work) (id : JobId) (ph : Phase) : Work :=
  w.mapJob id (fun x =>
    { x with state := .stranded ph, waits := {}, cancelReq := none, noteLate := x.noteLate || x.cancelReq.isSome })

/-- The crane's job field is dropped without a job end, as at a return to READY. -/
def Work.clearCraneJob (w : Work) (c : CraneNo) : Work :=
  (w.mapCrane c (fun x => { x with job := none, standing := none, leg := none })).closeDue (aisleOf c)

/-- R28, R38: the job in LEAD of a crane that stops returns to READY, or ends CANCELLED under its cancel request; the
crane's job field is dropped. -/
def Work.returnLead (w : Work) (c : CraneNo) (j : Job) : Work :=
  match j.cancelReq with
  | some b => (w.endJob j.id .cancelled (some b.cause) .giveBack none).clearCraneJob c
  | none => (w.returnReady j.id).clearCraneJob c

/-- R28, R73, R182: what a stop of the crane does to its job. -/
def Work.stopJob (w : Work) (c : CraneNo) : Work :=
  match w.st.craneJob? c with
  | none => w
  | some j =>
    match j.state with
    | .lead => w.returnLead c j
    | .fetch => w.strand j.id .fetch
    | .haul => w.strand j.id .haul
    | .place => w.strand j.id .place
    | _ => w

/-- The job promised to a crane returns to READY (R28). -/
def Work.returnPromised (w : Work) (k : Option JobId) : Work :=
  match k with
  | some id => w.returnReady id
  | none => w

/-- R182, step 3: a crane that is not OFFLINE is stopped. -/
def Work.stopCrane (w : Work) (c : CraneNo) : Work :=
  let w := (w.onState (·.setClaim c none)).mapCrane c (fun x =>
    { x with motionDeadline := none, order := .none, promised := none, carryPending := false, move := none,
             pos := none, span := none })
  (w.sendStop c).enterQuiet c .stopped

/-- R182, step 2: an OFFLINE crane keeps its state; its proving is abandoned. -/
def Work.stopOffline (w : Work) (c : CraneNo) : Work :=
  (w.abandonProving c).mapCrane c (fun x => { x with link := .unproven })

/-- R182, steps 1 to 5: the lockout of an aisle, with the resume mode given; the cause is that of a failed release
(R186). -/
def Work.lockout (w : Work) (a : AisleNo) (resume : StartKind) (cause : Option StartFailure) : Work :=
  let w := w.leaveOpen a
  let w := w.mapAisle a (fun x => { x with state := .lockout, start := none, resume := some resume })
  let before := (w.st.presentOf a).map (fun c => (c, w.st.crane c))
  let w := before.foldl (fun w x => if x.2.state = .offline then w.stopOffline x.1 else w.stopCrane x.1) w
  let w := before.foldl (fun w x => (w.returnPromised x.2.promised).stopJob x.1) w
  let w := w.reportAisle a cause
  before.foldl (fun w x =>
    if (w.st.crane x.1).state ≠ x.2.state ∨ (w.st.crane x.1).link ≠ x.2.link then w.reportCrane x.1 else w) w

end Sys2Proof.Machine
end

