-- ==== Sys2Proof/Machine/Cranes.lean ====
section
/-! DEFINITION. The shared operations of a crane's cycle: orders with the state they enter (R59), entry into FAULTED (R73),
re-placing and its waits (R75–R79), the resolution of a stranded job with its CARRY (R84, R85, R97, R98), and the cancel of
a stranded job (R39). -/

namespace Sys2Proof.Machine

/-! ## Orders -/

/-- The content of a CYCLE or a REDIRECT for a job (R59). -/
def Job.content (j : Job) : CycleContent := { job := j.id, source := j.source, dest := j.dest, tag := j.expTag }

/-- R54, R62, R90: CYCLE is sent: the cycle span is written, the lead deadline is armed, the crane enters LEAD. -/
def Work.sendCycle (w : Work) (c : CraneNo) (j : Job) : Work :=
  let p := w.st.craneProf c
  let pos := (w.st.crane c).pos
  let w := w.setSpan c (cycleSpan p (pos.getD (0, 0)) j.source (j.dest.getD j.source))
  ((w.order c (.cycle j.content)).arm c (leadEstimate p pos j.source)).enter c .lead

/-- R90, R94, R95, R86: MOVE is sent with a target bay and a purpose. -/
def Work.sendMove (w : Work) (c : CraneNo) (t : Nat) (why : Purpose) : Work :=
  let p := w.st.craneProf c
  let pos := (w.st.crane c).pos
  let w := w.setSpan c (hull2 (pos.getD (t, 0)).1 t)
  let w := (w.order c (.move t why)).arm c (fromPosition p pos (t, 0))
  (w.mapCrane c (fun x => { x with move := some (why, t) })).enter c .move

/-- R59, R80, R82, R100: REFERENCE is sent: carry pending no, the deadline armed from the position or from the far end of
the reach, and the span extended to the reference bay when the position is known. -/
def Work.sendReference (w : Work) (c : CraneNo) : Work :=
  let p := w.st.craneProf c
  let x := w.st.crane c
  let rb := refBay p x.role
  let w := match x.pos, x.span with
    | some _, some sp => w.setSpan c (Span.hull sp (rb, rb))
    | _, _ => w
  let w := (w.order c .reference).arm c (referenceEstimate p x.role x.pos)
  (w.mapCrane c (fun x =>
    { x with carryPending := false, standing := none, leg := none, move := none, fault := none })).enter c .reference

/-- R50, R54, R75–R78, R90: PLACE-AGAIN is sent: the crane is in PLACE with leg TRAVELLING. -/
def Work.sendPlaceAgain (w : Work) (c : CraneNo) (id : JobId) (dest : Place) : Work :=
  let p := w.st.craneProf c
  let from_ := ((w.st.crane c).standing).getD dest
  let w := w.setSpan c (hull2 (from_.bay p) (dest.bay p))
  let w := (w.order c (.placeAgain dest)).arm c (placeAgainEstimate p from_ dest)
  let w := (w.mapCrane c (fun x => { x with leg := some .travelling })).enter c .place
  w.mapJob id (fun x => { x with state := .place, dest := some dest })

/-- R78, R79, R90: the crane waits at its standing point with leg WAITING: the deadline is suspended, the span is the
standing point's bay, and the job takes the reason. -/
def Work.waitPlace (w : Work) (c : CraneNo) (id : JobId) (r : Reason) : Work :=
  let p := w.st.craneProf c
  let w := match (w.st.crane c).standing with
    | some x => w.shrinkSpan c (x.bay p, x.bay p)
    | none => w
  let w := ((w.disarm c).mapCrane c (fun x => { x with leg := some .waiting })).enter c .place
  (w.mapJob id (fun x => { x with state := .place })).placeWait id r true

/-! ## Faults -/

/-- R96: the HOLD of a crane whose yielding partner faulted ends: its job returns to READY, and it enters IDLE. -/
def Work.endHold (w : Work) (c : CraneNo) : Work :=
  if (w.st.crane c).state = .hold then
    match (w.st.crane c).job with
    | some id => ((w.returnReady id).clearCraneJob c).enter c .idle
    | none => w
  else w

/-- R179, R186: the start failure a fault cause gives. -/
def FaultCause.startFailure : FaultCause → StartFailure
  | .drift => .drift
  | _ => .craneFault

/-- R177, R179, R186: a fault in the REFERENCING phase fails the start. -/
def Work.failStart (w : Work) (c : CraneNo) (cause : FaultCause) : Work :=
  let a := aisleOf c
  match (w.st.aisle a).start with
  | none => w
  | some st =>
    match st.kind, st.phase with
    | .full, .referencing => w.failFull a cause.startFailure
    | .release, .referencing => w.lockout a .release (some cause.startFailure)
    | _, .proving => w

/-- R99: a claim held at the entry into FAULTED becomes the frozen span; it is then dropped (R91). -/
def Work.freeze (w : Work) (c : CraneNo) : Work :=
  (match w.st.claimOf c with
    | some sp => w.setSpan c sp
    | none => w).dropClaim c

/-- R73: a crane enters FAULTED. -/
def Work.fault (w : Work) (c : CraneNo) (cause : FaultCause) : Work :=
  let x := w.st.crane c
  let w := (w.freeze c).mapCrane c (fun x =>
    { x with fault := some cause, motionDeadline := none, order := .none, promised := none, carryPending := false })
  let w := ((w.returnPromised x.promised).sendStop c).stopJob c
  let w := if (w.st.crane c).job.isNone then w.clearCraneJob c else w
  let w := w.enter c .faulted
  let w := if x.state = .move ∧ x.move.map Prod.fst = some .yielding then w.endHold (other c) else w
  w.failStart c cause

/-! ## Wrong tags and places -/

/-- A list of ids with an id, once. -/
def withId (ids : List JobId) (id : JobId) : List JobId := if ids.contains id then ids else ids ++ [id]

/-- A wrong tag has been found for a job (R64, R84); its end will be FAILED TAG-MISMATCH. -/
def Work.noteMismatch (w : Work) (id : JobId) : Work :=
  w.onState (fun s => { s with jtb := { s.jtb with mismatched := withId s.jtb.mismatched id } })

/-- A place chosen for a job's wrong-tag load has been found occupied (R134). -/
def Work.noteTarget (w : Work) (id : JobId) : Work :=
  w.onState (fun s => { s with jtb := { s.jtb with targetOccupied := withId s.jtb.targetOccupied id } })

/-- A job's infeed head has been removed while it stays STRANDED (R84, R186). -/
def Work.noteHead (w : Work) (id : JobId) : Work :=
  w.onState (fun s => { s with jtb := { s.jtb with headTaken := withId s.jtb.headTaken id } })

/-- Place selection from the standing point with its two outcomes (R76, R77): the target is taken and PLACE-AGAIN is
sent, or the job waits NO-PLACE. -/
def Work.replace (w : Work) (c : CraneNo) (id : JobId) (tag : Tag) : Work :=
  match (w.st.crane c).standing.bind (w.st.selectFrom c) with
  | some l => (w.takePlace id l tag).sendPlaceAgain c id (.loc l)
  | none => (w.mapJob id (fun x => { x with dest := none })).waitPlace c id .noPlace

/-- R75, R76: the load of a wrong tag goes back to its source location, or from the infeed to a place chosen for it. -/
def Work.wrongTag (w : Work) (c : CraneNo) (j : Job) (tag : Tag) : Work :=
  let w := (w.noteMismatch j.id).releaseDest j
  match j.source with
  | .loc l => w.sendPlaceAgain c j.id (.loc l)
  | _ => (w.mapJob j.id (fun x => { x with dest := none })).replace c j.id tag

/-- R78: a NO-PLACE retry. -/
def Work.retryPlace (w : Work) (c : CraneNo) : Work :=
  let x := w.st.crane c
  match w.st.craneJob? c with
  | none => w
  | some j =>
    if x.state = .place ∧ x.leg = some .waiting ∧ j.waits.noPlace = true then
      match x.standing.bind (w.st.selectFrom c) with
      | some l =>
        ((w.placeWait j.id .noPlace false).takePlace j.id l (tagOr0 j.tagRead)).sendPlaceAgain c j.id (.loc l)
      | none => w
    else w

/-- R78: a STATION-BLOCKED retry at a departure from the outfeed where the crane stands. -/
def Work.retryBlocked (w : Work) (c : CraneNo) : Work :=
  let x := w.st.crane c
  match w.st.craneJob? c with
  | none => w
  | some j =>
    if x.state = .place ∧ x.leg = some .waiting ∧ j.waits.stationBlocked = true then
      (w.placeWait j.id .stationBlocked false).sendPlaceAgain c j.id .outfeed
    else w

/-! ## Stranded jobs: resolution and CARRY -/

/-- R59: whether a CARRY may be sent in the aisle's state. -/
def Aisle.maySendCarry (x : Aisle) : Bool :=
  match x.state with
  | .opened => true
  | .closing => true
  | .starting => x.start.any (fun st => st.kind = .release && st.phase = .referencing)
  | _ => false

/-- R59: whether a MOVE may be sent to a crane. -/
def State.maySendMove (s : State) (c : CraneNo) : Bool :=
  ((s.aisle (aisleOf c)).state = .opened || (s.aisle (aisleOf c)).state = .closing) &&
    (s.crane c).link = .proven && (s.crane c).pos.isSome && (s.crane c).stopDeadline.isNone

/-- R85: CARRY is sent. -/
def Work.sendCarry (w : Work) (c : CraneNo) (id : JobId) (dest : Place) : Work :=
  let p := w.st.craneProf c
  let pos := (w.st.crane c).pos
  let w := w.setSpan c (hull2 (pos.getD (0, 0)).1 (dest.bay p))
  let w := (w.order c (.carry dest)).arm c (carryEstimate p pos dest)
  let w := (w.mapCrane c (fun x => { x with carryPending := false })).enter c .haul
  w.mapJob id (fun x => { x with state := .haul })

/-- R85, R97: a carry is tested: it is sent, or the other crane is asked to yield and the carry stays pending, or it
stays pending. -/
def Work.tryCarry (w : Work) (c : CraneNo) : Work :=
  let pend := w.mapCrane c (fun x => { x with carryPending := true })
  match w.st.craneJob? c with
  | none => w
  | some j =>
    match j.dest, (w.st.crane c).pos with
    | some d, some pos =>
      if (w.st.aisle (aisleOf c)).maySendCarry ∧ (w.st.crane c).link = .proven then
        match w.st.railTest c (hull2 pos.1 (d.bay (w.st.craneProf c))) with
        | some none => w.sendCarry c j.id d
        | some (some t) => if w.st.maySendMove (other c) then pend.sendMove (other c) t .yielding else pend
        | none => pend
      else pend
    | _, _ => pend

/-- R98: a pending carry is re-tested. -/
def Work.retestCarry (w : Work) (c : CraneNo) : Work :=
  if (w.st.crane c).state = .reference ∧ (w.st.crane c).carryPending = true then w.tryCarry c else w

/-- R84: a target chosen from the reference bay, then the CARRY; without a target the crane faults NO-PLACE. -/
def Work.carryToPlace (w : Work) (c : CraneNo) (id : JobId) (tag : Tag) : Work :=
  match w.st.selectFromRef c with
  | some l => (w.takePlace id l tag).tryCarry c
  | none => (w.mapJob id (fun x => { x with dest := none })).fault c .noPlace

/-- R84: the tag that decides a mismatch at the resolution: the one the REFERENCED read, or the job's when it read none
(log entry 18). -/
def resolutionTag (read : Tag) (j : Job) : Tag := if read = 0 then tagOr0 j.tagRead else read

/-- R84, a load sensed. A target chosen after the fetch becomes INBOUND with the job's tag read (R8), which is the
REFERENCED's only where the job had none. The job keeps its stranded phase until its CARRY is sent, through failed releases
(R186); that its infeed head has been removed is remembered (log entry 18). -/
def Work.resolveLoaded (w : Work) (c : CraneNo) (j : Job) (read : Tag) : Work :=
  let own := j.tagRead.or (readTag read)
  let w := w.mapJob j.id (fun x => { x with tagRead := own })
  let w := if j.state = .stranded .fetch ∧ j.source = .infeed then (w.popInfeed j true).noteHead j.id else w
  if tagsDiffer j.expTag (resolutionTag read j) then
    let w := ((w.noteMismatch j.id).releaseDest j).mapJob j.id (fun x => { x with dest := none })
    w.carryToPlace c j.id (tagOr0 own)
  else
    match j.dest with
    | some _ => w.tryCarry c
    | none => w.carryToPlace c j.id (tagOr0 own)

/-- A job that is to be fetched anew: the marks that the model holds of an earlier resolution with a load sensed (wrong tag,
target found occupied, head removed) are dropped, and a RETRIEVE is bound for the outfeed again. The tag read stays in the
record. All of this is the model's choice (log entry 49). -/
def Work.unfetch (w : Work) (j : Job) : Work :=
  let w := w.onState (fun s => { s with jtb := s.jtb.forget j.id })
  if j.kind = .retrieve then (w.releaseDest j).mapJob j.id (fun x => { x with dest := some .outfeed }) else w

/-- R84, no load sensed. -/
def Work.resolveEmpty (w : Work) (c : CraneNo) (j : Job) : Work :=
  if j.state = .stranded .fetch then (((w.unfetch j).returnReady j.id).clearCraneJob c).enter c .idle
  else (w.endJob j.id .failed (some .loadLost) .lost none).enter c .idle

/-- R84: the stranded-job table. -/
def Work.resolve (w : Work) (c : CraneNo) (j : Job) (sensed : Bool) (read : Tag) : Work :=
  if sensed then w.resolveLoaded c j read else w.resolveEmpty c j

/-- R39, R85: a cancel of a job in STRANDED. The load on board becomes unknown; a crane with carry pending is faulted. -/
def Work.cancelStranded (w : Work) (j : Job) : Work :=
  let w := w.endJob j.id .cancelled (some .strandedCancel) .lost none
  match j.crane with
  | none => w
  | some c =>
    let w := w.mapCrane c (fun x => { x with load := .unknown })
    if (w.st.crane c).state = .reference ∧ (w.st.crane c).carryPending = true then w.fault c .unexpectedLoad else w

end Sys2Proof.Machine
end

