-- ==== Sys2Proof/Machine/Aisles.lean ====
section
/-! DEFINITION. The aisle life cycle: link proving (R175, R176), the REFERENCING phase (R177), the success of a start
(R178, R185), the end of a close (R181), and what the end of a wait for STOPPED lets be sent (R59, R61). -/

namespace Sys2Proof.Machine

/-- R175: byte j of the PROBE of a frame number. -/
def probeByte (frame j : Nat) : Byte :=
  if frame < 16 then
    match frame % 4 with
    | 0 => 0x00
    | 1 => 0xFF
    | 2 => if j % 2 = 0 then 0x55 else 0xAA
    | _ => BitVec.ofNat 8 (2 ^ ((j + frame / 4) % 8))
  else BitVec.ofNat 8 (frame + j)

/-- R175: the body of a PROBE. -/
def probeBody (frame : Nat) : List Byte := (List.range Config.probeBody).map (probeByte frame)

/-- R175: a PROBE is sent and its echo deadline is armed. -/
def Work.sendProbe (w : Work) (c : CraneNo) (errors frame : Nat) : Work :=
  (w.onState (fun s => s.setProving c
    { errors := errors, frame := some frame, echoDeadline := some (s.now + Config.echoTime) })).order c
    (.probe frame (probeBody frame))

/-- R175: proving starts: error count 0, frame 0. -/
def Work.startProving (w : Work) (c : CraneNo) : Work := w.sendProbe c 0 0

/-- R174: whether a STOP to a crane is unanswered. -/
def State.stopUnanswered (s : State) (c : CraneNo) : Bool := (s.crane c).stopDeadline.isSome

/-- R174: an aisle becomes STARTING with a FULL start. -/
def Work.beginFull (w : Work) (a : AisleNo) : Work :=
  let w := w.mapAisle a (fun x =>
    { x with state := .starting, resume := none,
             start := some { kind := .full, phase := .proving, runsFront := 0, runsRear := 0 } })
  let present := w.st.presentOf a
  let w := present.foldl (fun w c => w.setLink c .proving) w
  let w := w.reportAisle a none
  present.foldl (fun w c => if w.st.stopUnanswered c then w else w.startProving c) w

/-- R59, R177: a REFERENCE for a STARTING aisle is held while a STOP is unanswered. -/
def Work.startReference (w : Work) (c : CraneNo) : Work :=
  if w.st.stopUnanswered c then w else w.sendReference c

/-- R176, R177: the PROVING phase ends when the last present link is PROVEN. -/
def Work.endProving (w : Work) (a : AisleNo) : Work :=
  if (w.st.presentOf a).all (fun c => (w.st.crane c).link = .proven) then
    let w := w.mapAisle a (fun x => { x with start := x.start.map (fun st => { st with phase := .referencing }) })
    let w := w.reportAisle a none
    (w.st.presentOf a).foldl (fun w c => w.startReference c) w
  else w

/-- R176: what follows a decided frame, with the error count it leaves. -/
def Work.afterFrame (w : Work) (c : CraneNo) (frame errors : Nat) : Work :=
  if (w.st.craneProf c).provingAllowance < errors then
    ((w.abandonProving c).setLink c .failed).failFull (aisleOf c) .provingFailed
  else if Config.probeFrames ≤ frame + 1 then
    ((w.abandonProving c).setLink c .proven).endProving (aisleOf c)
  else w.sendProbe c errors (frame + 1)

/-- R59, R61: the orders that the end of a wait for STOPPED releases. -/
def Work.endOfWait (w : Work) (c : CraneNo) : Work :=
  match (w.st.aisle (aisleOf c)).start with
  | none => w
  | some st =>
    match st.phase with
    | .proving =>
      if (w.st.crane c).link = .proving ∧ (w.st.provingOf c).frame = none then w.startProving c else w
    | .referencing =>
      if (w.st.crane c).state = .offline ∨ (w.st.crane c).state = .stopped then w.sendReference c else w

/-- The start runs of a crane (R171). -/
def Start.runs (st : Start) (c : CraneNo) : Nat := if c.val % 2 = 0 then st.runsFront else st.runsRear

/-- One more start run of a crane. -/
def Start.addRun (st : Start) (c : CraneNo) : Start :=
  if c.val % 2 = 0 then { st with runsFront := st.runsFront + 1 } else { st with runsRear := st.runsRear + 1 }

/-- R178, R185: whether a start has succeeded. -/
def State.startDone (s : State) (a : AisleNo) : Bool :=
  match (s.aisle a).start with
  | none => false
  | some st =>
    match st.kind with
    | .full => (s.presentOf a).all (fun c => decide (2 ≤ st.runs c) && (s.crane c).state = .idle)
    | .release => (s.presentOf a).all (fun c => decide (1 ≤ st.runs c))

/-- R178, R185: the aisle becomes OPEN, and the crane-idle notice of each IDLE crane is taken. -/
def Work.finishStart (w : Work) (a : AisleNo) : Work :=
  if (w.st.aisle a).state = .starting ∧ w.st.startDone a = true then
    let w := w.mapAisle a (fun x => { x with state := .opened, start := none })
    let w := w.reportAisle a none
    ((w.st.presentOf a).filter (fun c => (w.st.crane c).state = .idle)).foldl
      (fun w c => { (w.mark c) with idle := if w.idle.contains c then w.idle else w.idle ++ [c] }) w
  else w

/-- R181: whether a present crane lets the aisle close. -/
def Crane.letsClose (x : Crane) : Bool := x.state = .idle || (x.state = .faulted && x.job.isNone)

/-- R181: the close completion test. -/
def Work.finishClose (w : Work) (a : AisleNo) : Work :=
  if (w.st.aisle a).state = .closing ∧ (w.st.presentOf a).all (fun c => (w.st.crane c).letsClose) then
    let w := (w.st.presentOf a).foldl (fun w c => w.goOffline c none) w
    (w.mapAisle a (fun x => { x with state := .closed })).reportAisle a none
  else w

end Sys2Proof.Machine
end

