-- ==== Sys2Proof/Machine/Arbiter.lean ====
section
/-! DEFINITION. The dispatch arbiter of an aisle: availability (R102), eligibility (R103, R127), the stages of a decision
(R108–R110), the grant (R111), rush redirects (R114–R116), adoption at a decision (R119), and the evaluation (R105,
R106). -/

namespace Sys2Proof.Machine

/-- R102: whether a crane is available. -/
def State.available (s : State) (c : CraneNo) : Bool :=
  let x := s.crane c
  x.state = .idle && (s.aisle (aisleOf c)).state = .opened && x.link = .proven && x.pos.isSome &&
    x.refStatus ≠ .forced && x.stopDeadline.isNone && !s.hli.pause

/-- What a grant of a job to a crane would use: the destination, and the bay the other crane yields to, if it must. -/
structure Offer where
  dest : Place
  yieldTo : Option Nat
deriving DecidableEq, Repr

/-- R103, rail: the offer of a destination. -/
def State.railOffer (s : State) (c : CraneNo) (j : Job) (dest : Place) : Option Offer :=
  let p := s.craneProf c
  match (s.crane c).pos with
  | none => none
  | some pos => (s.railTest c (cycleSpan p pos j.source dest)).map (fun y => { dest := dest, yieldTo := y })

/-- R103: the conditions of eligibility that the rail and the clearance destination have no part in. -/
def State.mayTake (s : State) (c : CraneNo) (j : Job) : Bool :=
  let x := s.crane c
  let a := s.aisle (aisleOf c)
  j.state = .ready && j.aisle = aisleOf c && decide (j.urgency < a.ceiling) &&
    roleAndReach (s.craneProf c) x.role j &&
    (j.kind ≠ .retrieve || s.outfeedRoom j.aisle) &&
    (x.refStatus ≠ .due || decide (j.urgency ≤ 1))

/-- R103, R101, R127: whether a job is eligible for a crane, and with what offer. That a job without a destination is given one
by place selection also when it is no CLEARANCE job is the model's choice (log entry 49). -/
def State.offer (s : State) (c : CraneNo) (j : Job) : Option Offer :=
  if s.mayTake c j then
    match j.dest with
    | some d => s.railOffer c j d
    | none =>
      match s.selectPlace c (s.crane c).pos (fun l => (s.railOffer c j (.loc l)).isSome) with
      | some l => s.railOffer c j (.loc l)
      | none => none
  else none

/-- R103: eligibility. -/
def State.eligible (s : State) (c : CraneNo) (j : Job) : Bool := (s.offer c j).isSome

/-- R108: whether a crane filter admits a role. -/
def admitsRole : CraneFilter → Role → Bool
  | _, .sole => true
  | .either, _ => true
  | .front, r => r = .front
  | .rear, r => r = .rear

/-- R108: whether a kind filter passes a kind. -/
def passesKind : KindFilter → JobKind → Bool
  | .any, _ => true
  | .storeOnly, k => k = .store
  | .retrieveOnly, k => k = .retrieve || k = .clearance

/-- R110: whether `x` is chosen before `y` by crane position `pos`: urgency, lead estimate, submit stamp. -/
def firstChoice (p : Profile) (pos : Option Point) (x y : Job) : Bool :=
  let ex := leadEstimate p pos x.source
  let ey := leadEstimate p pos y.source
  if x.urgency ≠ y.urgency then decide (x.urgency < y.urgency)
  else if ex ≠ ey then decide (ex < ey)
  else older x.stamp y.stamp

/-- The live jobs of a queue, in queue order (R34). -/
def State.queueJobs (s : State) (q : QueueNo) : List Job := s.jtb.queues[q].filterMap s.job?

/-- R108, R110: the job an entry gives a crane, if the entry matches. -/
def State.entryJob (s : State) (c : CraneNo) (e : Entry) : Option Job :=
  match e.queue with
  | none => none
  | some q =>
    if admitsRole e.crane (s.crane c).role then
      let p := s.craneProf c
      let pos := (s.crane c).pos
      ((s.queueJobs q).filter (fun j => passesKind e.kind j.kind && s.eligible c j)).foldl
        (fun best x =>
          match best with
          | none => some x
          | some b => if firstChoice p pos x b then some x else some b) none
    else none

/-- The counted entries of a list with their indices (R107). -/
def SchedList.counted {n : Nat} (l : SchedList n) : List (Nat × Entry) :=
  (List.range l.count).filterMap (fun i => (l.entries[i]?).map (fun e => (i, e)))

/-- R109, stages 3 and 4: the entries of a rotation list, from the one after the pointer, cyclically. -/
def SchedList.rotated {n : Nat} (l : SchedList n) (ptr : Nat) : List (Nat × Entry) :=
  l.counted.filter (fun x => decide (ptr < x.1)) ++ l.counted.filter (fun x => decide (x.1 ≤ ptr))

/-- The list whose entry granted, with its index (R111). -/
inductive Stage where
  | wheel | priority | first (i : Nat) | second (i : Nat)
deriving DecidableEq, Repr

/-- The first entry of a list that matches, with its job. -/
def State.firstMatch (s : State) (c : CraneNo) : List (Nat × Entry) → Option (Nat × Job)
  | [] => none
  | (i, e) :: rest =>
    match s.entryJob c e with
    | some j => some (i, j)
    | none => s.firstMatch c rest

/-- R109: the stages of a decision. -/
def State.choose (s : State) (c : CraneNo) : Option (Stage × Job) :=
  let a := s.aisle (aisleOf c)
  let wheel := a.active.wheel.counted.filter (fun x => x.1 == a.wheelPtr)
  match s.firstMatch c wheel with
  | some (_, j) => some (.wheel, j)
  | none =>
    match s.firstMatch c a.active.priority.counted with
    | some (_, j) => some (.priority, j)
    | none =>
      match s.firstMatch c (a.active.rot1.rotated a.rot1Ptr) with
      | some (i, j) => some (.first i, j)
      | none =>
        match s.firstMatch c (a.active.rot2.rotated a.rot2Ptr) with
        | some (i, j) => some (.second i, j)
        | none => none

/-- R111, step 5: the pointers after a grant. -/
def Aisle.stepped (x : Aisle) (st : Stage) : Aisle :=
  let n := x.active.wheel.count
  let x := { x with wheelPtr := if n = 0 then 0 else (x.wheelPtr + 1) % n }
  match st with
  | .first i => { x with rot1Ptr := i }
  | .second i => { x with rot2Ptr := i }
  | _ => x

/-- R111, R129: the place selected for a job without a destination is reserved. -/
def Work.settlePlace (w : Work) (j : Job) (d : Place) : Work :=
  match j.dest, d with
  | none, .loc l => w.takePlace j.id l j.expTag
  | _, _ => w

/-- R111: a grant. -/
def Work.grant (w : Work) (c : CraneNo) (st : Stage) (j : Job) (o : Offer) : Work :=
  let w := w.settlePlace j o.dest
  let w := w.mapJob j.id (fun x => { x with state := .lead, crane := some c, readySince := none })
  let w := (w.mapCrane c (fun x => { x with job := some j.id })).reserve j
  let w := match o.yieldTo with
    | none => w.sendCycle c { j with dest := some o.dest }
    | some t => (w.enter c .hold).sendMove (other c) t .yielding
  w.mapAisle (aisleOf c) (fun x => x.stepped st)

/-- R119: adoption at a decision. -/
def Work.adoptAtDecision (w : Work) (a : AisleNo) : Work :=
  if (w.st.aisle a).marked = true ∧ (w.st.aisle a).wheelPtr = 0 then w.adopt a else w

/-- R105, R109: a grant decision for a crane, taken when at least one job is eligible for it. -/
def Work.decide (w : Work) (c : CraneNo) : Work :=
  if w.st.available c ∧ w.st.jtb.jobs.any (w.st.eligible c) then
    let w := w.adoptAtDecision (aisleOf c)
    match w.st.choose c with
    | none => w
    | some (st, j) =>
      match w.st.offer c j with
      | some o => w.grant c st j o
      | none => w
  else w

/-! ## Rush redirects -/

/-- R114, condition 7: whether a counted entry of the active schedule serves the job for a role. -/
def Schedule.serves (x : Schedule) (r : Role) (j : Job) : Bool :=
  let ok := fun (e : Nat × Entry) => e.2.queue == some j.queue && passesKind e.2.kind j.kind && admitsRole e.2.crane r
  x.wheel.counted.any ok || x.priority.counted.any ok || x.rot1.counted.any ok || x.rot2.counted.any ok

/-- R91: the claim a job would form for a crane: the hull of the crane's span and the job's cycle span. -/
def State.claimFor (s : State) (c : CraneNo) (k : Job) : Option Span :=
  match (s.crane c).span, (s.crane c).pos, k.dest with
  | some sp, some pos, some d => some (Span.hull sp (cycleSpan (s.craneProf c) pos k.source d))
  | _, _, _ => none

/-- R114: whether the job conditions of a rush redirect hold. -/
def State.promotable (s : State) (k : Job) : Bool :=
  k.state = .ready && k.kind ≠ .clearance && decide (k.urgency < (s.aisle k.aisle).ceiling) &&
    (s.aisle k.aisle).state = .opened && !s.hli.pause &&
    (cranesOf k.aisle).all (fun c => !(s.available c && s.eligible c k))

/-- R114, condition 5: outfeed room once the displaced job's own reservation is left out. -/
def State.roomFor (s : State) (k j : Job) : Bool :=
  k.kind ≠ .retrieve ||
    decide (s.outfeedSum k.aisle < (s.prof k.aisle).outfeedCap + if j.kind = .retrieve then 1 else 0)

/-- R114: whether a crane qualifies to be redirected to a job; the result is its present job and the claim. -/
def State.qualifies (s : State) (k : Job) (c : CraneNo) : Option (Job × Span) :=
  let x := s.crane c
  match s.craneJob? c, s.claimFor c k with
  | some j, some cl =>
    if x.state = .lead ∧ x.order = .none ∧ k.urgency < j.urgency ∧ j.bump < Config.maxBumps ∧
        roleAndReach (s.craneProf c) x.role k ∧ s.plainTest c cl ∧ s.roomFor k j ∧
        (x.refStatus ≠ .due ∨ k.urgency ≤ 1) ∧ (s.aisle k.aisle).active.serves x.role k then
      some (j, cl)
    else none
  | _, _ => none

/-- R115: of two qualifying cranes, the FRONT one first in the list, the one that is chosen. -/
def State.redirectChoice (s : State) (k : Job) : Option (CraneNo × Span) :=
  let found := (cranesOf k.aisle).filterMap (fun c => (s.qualifies k c).map (fun x => (c, x.1, x.2)))
  let est := fun (c : CraneNo) => leadEstimate (s.craneProf c) (s.crane c).pos k.source
  (found.foldl (fun (best : Option (CraneNo × Job × Span)) x =>
    match best with
    | none => some x
    | some b =>
      if b.2.1.urgency < x.2.1.urgency then some x
      else if b.2.1.urgency = x.2.1.urgency ∧ est x.1 < est b.1 then some x
      else some b) none).map (fun x => (x.1, x.2.2))

/-- R115: a job is promised to a crane. -/
def Work.promise (w : Work) (k : Job) (c : CraneNo) (claim : Span) : Work :=
  let w := w.mapJob k.id (fun x => { x with state := .promised, crane := some c, readySince := none })
  let w := w.onState (·.setClaim c (some claim))
  (w.mapCrane c (fun x => { x with promised := some k.id, order := .redirect })).order c (.redirect k.content)

/-- R114, R115: a rush redirect is considered for a job; the flag says whether one was promised. -/
def Work.redirect (w : Work) (id : JobId) : Work × Bool :=
  match w.st.job? id with
  | none => (w, false)
  | some k =>
    if w.st.promotable k then
      match w.st.redirectChoice k with
      | some (c, cl) => (w.promise k c cl, true)
      | none => (w, false)
    else (w, false)

/-- R116: the order in which jobs are considered: the most urgent first, then the oldest. -/
def considerBefore (x y : Job) : Bool :=
  if x.urgency ≠ y.urgency then decide (x.urgency < y.urgency) else older x.stamp y.stamp

/-- A job inserted into a list kept in the order of R116. -/
def insertConsider (x : Job) : List Job → List Job
  | [] => [x]
  | y :: ys => if considerBefore x y then x :: y :: ys else y :: insertConsider x ys

/-- Jobs in the order of R116. -/
def considerOrder (js : List Job) : List Job := js.foldl (fun acc x => insertConsider x acc) []

/-- R116: a sweep ends when no crane qualifies for the next job considered. -/
def Work.sweepJobs : List Job → Work → Work
  | [], w => w
  | k :: rest, w =>
    match w.redirect k.id with
    | (w, true) => Work.sweepJobs rest w
    | (w, false) => w

/-- R116: the redirect sweep of an OPEN aisle. -/
def Work.sweep (w : Work) (a : AisleNo) : Work :=
  Work.sweepJobs (considerOrder (w.st.jtb.jobs.filter (fun k => k.aisle = a && w.st.promotable k))) w

/-! ## Evaluation -/

/-- R106: the order in which the available cranes of an aisle are decided: the older idle-since time first, and the FRONT
crane first on equal times. -/
def State.decisionOrder (s : State) (a : AisleNo) : List CraneNo :=
  let f := frontOf a
  let r := rearOf a
  if (s.crane r).idleSince.getD 0 < (s.crane f).idleSince.getD 0 then [r, f] else [f, r]

/-- R105: the evaluation of an aisle, followed by the redirects of the readiness notices of the event, or by the sweep. -/
def Work.evaluate (w : Work) (a : AisleNo) (ready : List JobId) (swept : Bool) : Work :=
  if (w.st.aisle a).state = .opened then
    let w := (w.st.decisionOrder a).foldl (fun w c => w.decide c) w
    if swept then w.sweep a
    else
      let js := considerOrder ((ready.filterMap w.st.job?).filter (fun k => k.aisle = a))
      js.foldl (fun w k => (w.redirect k.id).1) w
  else w

end Sys2Proof.Machine
end

