-- ==== Sys2Proof/Machine/Settle.lean ====
section
/-! DEFINITION. How an event ends: the notices and tests it has raised are acted upon in one order (log entry 13), the output
line is fed (R190–R192), and the state after the event is given. What an owner answers to a request, and the end of its event
(R189). -/

namespace Sys2Proof.Machine

/-! ## Peers: pending carries and NO-PLACE waits -/

/-- R78, R98: what a crane does at the notices raised: a pending carry is re-tested when the other crane is marked, and
a NO-PLACE wait is retried then or at a location-available notice. -/
def Work.peer (avail : List AisleNo) (marks : List CraneNo) (w : Work) (c : CraneNo) : Work :=
  let w := if marks.contains (other c) then w.retestCarry c else w
  if marks.contains (other c) ∨ avail.contains (aisleOf c) then w.retryPlace c else w

/-- The peers of every aisle, FRONT before REAR, until no notice is left. -/
def Work.peers : Nat → Work → Work
  | 0, w => w
  | fuel + 1, w =>
    if w.avail.isEmpty ∧ w.marks.isEmpty then w
    else Work.peers fuel (allCranes.foldl (Work.peer w.avail w.marks) { w with avail := [], marks := [] })

/-- The rounds of peers of one event. A round can only follow from an order the one before it sent, and each crane is
sent at most one order by a round. -/
def peerRounds : Nat := 8

/-! ## One pass over the notices -/

/-- R155: the infeed claims due are evaluated. -/
def Work.takeClaims (w : Work) : Work :=
  w.claimsDue.foldl (fun w a => w.evalClaim a) { w with claimsDue := [] }

/-- R178, R185: the starts due are tested. -/
def Work.takeStarts (w : Work) : Work :=
  w.startsDue.foldl (fun w a => w.finishStart a) { w with startsDue := [] }

/-- R104, R82: whether a crane at its crane-idle notice has a reference status. -/
def State.idleWith (s : State) (r : RefStatus) (c : CraneNo) : Bool :=
  (s.crane c).state = .idle && (s.crane c).refStatus = r && (s.crane c).link = .proven

/-- R104, R82: REFERENCE to a crane that is IDLE with a reference status. -/
def Work.referenceWhen (r : RefStatus) (w : Work) (c : CraneNo) : Work :=
  if w.st.idleWith r c then w.sendReference c else w

/-- R104: one aisle at the end of an event: FORCED cranes are sent REFERENCE, the aisle is evaluated once for all
notices (R105), and DUE cranes that are still IDLE are sent REFERENCE. -/
def Work.aisleTurn (idle : List CraneNo) (ready : List JobId) (evals sweeps : List AisleNo) (w : Work) (a : AisleNo) :
    Work :=
  if (w.st.aisle a).state = .opened then
    let mine := idle.filter (fun c => aisleOf c = a)
    let w := mine.foldl (Work.referenceWhen .forced) w
    let due := mine.filter (w.st.idleWith .due)
    let current := mine.filter (w.st.idleWith .current)
    let w :=
      if evals.contains a ∨ due ≠ [] ∨ current ≠ [] ∨ sweeps.contains a then
        w.evaluate a ready (sweeps.contains a)
      else w
    due.foldl (Work.referenceWhen .due) w
  else w

/-- The turn of every aisle. -/
def Work.takeTurns (w : Work) : Work :=
  allAisles.foldl (Work.aisleTurn w.idle w.ready w.evals w.sweeps)
    { w with idle := [], ready := [], evals := [], sweeps := [] }

/-- Whether no notice waits to be acted upon. -/
def Work.quiet (w : Work) : Bool :=
  w.claimsDue.isEmpty && w.avail.isEmpty && w.marks.isEmpty && w.startsDue.isEmpty && w.idle.isEmpty &&
    w.ready.isEmpty && w.evals.isEmpty && w.sweeps.isEmpty

/-- Passes over the notices until none is left. -/
def Work.passes : Nat → Work → Work
  | 0, w => w
  | fuel + 1, w =>
    if w.quiet then w
    else
      let w := Work.peers peerRounds w.takeClaims
      let w := Work.peers peerRounds w.takeStarts
      Work.passes fuel w.takeTurns

/-- The passes of one event. -/
def passRounds : Nat := 8

/-- R165: the collector arbiter decides. -/
def Work.takeRelease (w : Work) : Work :=
  if w.releaseDue then { w.releaseDecision with releaseDue := false } else w

/-- R181: the closes due are tested. -/
def Work.takeCloses (w : Work) : Work :=
  w.closesDue.foldl (fun w a => w.finishClose a) { w with closesDue := [] }

/-- R146: the runs that end after every report of the event. -/
def Work.takeRunEnds (w : Work) : Work :=
  w.runEnds.foldl (fun w id => w.finishRun id) { w with runEnds := [], deferRuns := false }

/-- R142: the record-free notice at the end of an event in which a job ended. -/
def Work.giveFree (w : Work) : Work :=
  if w.jobEnded ∧ w.st.recordFree = true then
    { w.onState (fun s => { s with jtb := { s.jtb with freeNotices := s.jtb.freeNotices + 1 } }) with
      jobEnded := false }
  else w

/-- The end of an event's work. -/
def Work.settle (w : Work) : Work :=
  (Work.passes passRounds w).takeRelease.takeCloses.takeRunEnds.giveFree

/-! ## The output line (R190–R192) -/

/-- R187, R191, R192: the head report leaves its queue for the line with tag 0: the pause is dropped at 64 entries or fewer,
and REPORTS-LOST is appended when reports were lost. -/
def Hli.sendReport (h : Hli) (r : Report) (rest : List Report) : Hli :=
  let h := { h with line := some (.report 0 r), reports := rest,
                    pause := h.pause && decide (Config.pauseDrop < rest.length) }
  if 0 < h.lost then { h.append (.reportsLost h.lost) with lost := 0 } else h

/-- R190: the output line arbiter, when the line is idle: the head reply, else the head report. -/
def Hli.feed (h : Hli) : Hli :=
  match h.line with
  | some _ => h
  | none =>
    match h.replies, h.reports with
    | x :: rest, _ => { h with line := some (.reply x), replies := rest }
    | [], r :: rest => h.sendReport r rest
    | [], [] => h

/-- R190: the line is fed; a frame whose transmission begins is logged (log entry 4). -/
def State.feed (s : State) : State :=
  let h := s.hli.feed
  match s.hli.line, h.line with
  | none, some f => ({ s with hli := h }).sendOut (.host f)
  | _, _ => { s with hli := h }

/-- R113: at the end of the dispatch pause each OPEN aisle is evaluated and swept. -/
def Work.pauseEnded (w : Work) : Work :=
  let opened := allAisles.filter (fun a => (w.st.aisle a).state = .opened)
  { w with evals := w.evals ++ opened, sweeps := w.sweeps ++ opened }

/-- The line is fed within an event. -/
def Work.feed (w : Work) : Work :=
  let was := w.st.hli.pause
  let w := w.onState State.feed
  if was ∧ w.st.hli.pause = false then w.pauseEnded.settle else w

/-- The state after an event. -/
def Work.finish (w : Work) : State := w.settle.feed.st

/-! ## Requests (R189) -/

/-- R189: a reply is queued. -/
def State.pushReply (s : State) (r : Reply) : State := { s with hli := { s.hli with replies := s.hli.replies ++ [r] } }

/-- What an owner answers: the result, and the data of an accepted query or END-RUN. -/
structure Answer where
  result : Result
  data : ReplyData := .none
deriving DecidableEq, Repr

/-- R189: the reply to a request of a kind, with its tag. -/
def Answer.reply (x : Answer) (k : ReplyKind) (tag : FrameTag) : Reply :=
  { kind := k, tag := tag, result := x.result, data := x.data }

/-- R189: the end of the event of a request taken: the owner's work is done, one reply is queued, and the event ends. -/
def answerWith (r : Work × Answer) (k : ReplyKind) (tag : FrameTag) : State :=
  (r.1.onState (fun s => s.pushReply (r.2.reply k tag))).finish

/-- A request whose owner's checks refuse it: nothing is changed (R189). -/
def refuse (s : State) (r : Result) : Work × Answer := (.start s, { result := r })

/-- A request carried out with DONE. -/
def done (w : Work) : Work × Answer := (w, { result := .done })

/-- A request whose checks give either a refusal code or what its owner then does. -/
def checked {α : Type} (s : State) (check : Except Result α) (f : α → Work × Answer) : Work × Answer :=
  match check with
  | .error r => refuse s r
  | .ok x => f x

/-- An accepted query: its data, and no change (R193). -/
def answered (s : State) (d : ReplyData) : Work × Answer := (.start s, { result := .done, data := d })

/-- A body that must be present, and is MALFORMED otherwise. -/
def needed {α : Type} (x : Option α) : Except Result α :=
  match x with
  | some v => .ok v
  | none => .error .malformed

end Sys2Proof.Machine
end

