-- ==== Sys2Proof/Machine/CraneReports.lean ====
section
/-! DEFINITION. The crane reports: which state each fits (R60), what a fitting report does (R61–R70, R75–R79, R83, R95,
R176, R177), the protocol fault of one that does not fit (R71), and late reports (R72, R74). -/

namespace Sys2Proof.Machine

/-! ## What every report shares -/

/-- A message of a crane is an event of its own; every frame on the link of an ABSENT crane is discarded (R55). -/
def State.craneEvent (s : State) (c : CraneNo) (f : Work → Work) : Host.Outcome State Fault Refusal :=
  if (s.crane c).role = .absent then .next s else .next (f (.start s)).finish

/-- Whether a crane is in a state in which reports are late (R60, R72). -/
def CraneState.late : CraneState → Bool
  | .faulted => true
  | .stopped => true
  | _ => false

/-- R60: a report that does not fit: discarded in OFFLINE, a protocol fault in an active state; in FAULTED and STOPPED
the late handling given. -/
def Work.unfit (w : Work) (c : CraneNo) (late : Work → Work) : Work :=
  match (w.st.crane c).state with
  | .offline => w
  | .faulted => late w
  | .stopped => late w
  | _ => w.fault c .protocol

/-- R72, R74: CRANE-STATE with note UNMATCHED-REPORT. -/
def Work.unmatched (w : Work) (c : CraneNo) : Work := w.reportCraneAs c (w.st.crane c).fault false true

/-- R72, R74: a late cycle report: facts for a STRANDED job whose phase and leg it fits; the facts about the crane alone
when it has no job; UNMATCHED-REPORT otherwise. R40 has a late report for an ended job apply its facts where a record still
matches: no location record does, since the report names no location (R60) and LTB changes a job's own records only (R9, R11),
and R74 says that none is changed (log entry 50). -/
def Work.lateCycle (w : Work) (c : CraneNo) (fits : Phase → Option Leg → Bool) (facts : Work → Job → Work)
    (noJob : Crane → Crane) : Work :=
  match w.st.craneJob? c with
  | none => (w.mapCrane c noJob).unmatched c
  | some j =>
    match j.state with
    | .stranded ph => if fits ph (w.st.crane c).leg then facts w j else w.unmatched c
    | _ => w.unmatched c

/-- R72: a late report sets the position in FAULTED only. -/
def Work.latePos (w : Work) (c : CraneNo) (x : Option Point) : Work :=
  if (w.st.crane c).state = .faulted ∧ x.isSome = true then w.mapCrane c (fun y => { y with pos := x }) else w

/-! ## AT-SOURCE -/

/-- R91: the claim is re-formed from the shrunk span while a REDIRECT is outstanding. -/
def Work.reformClaim (w : Work) (c : CraneNo) : Work :=
  match (w.st.claimOf c), ((w.st.crane c).promised.bind w.st.job?) with
  | some _, some k => w.onState (fun s => s.setClaim c (s.claimFor c k))
  | _, _ => w

/-- R63: AT-SOURCE ends the lead. -/
def Work.reachSource (w : Work) (c : CraneNo) (j : Job) : Work :=
  let p := w.st.craneProf c
  let w := (w.mapCrane c (fun x => { x with standing := some j.source })).arm c (handling p j.source)
  let w := (w.enter c .fetch).mapJob j.id (fun x => { x with state := .fetch })
  (w.shrinkSpan c (hull2 (j.source.bay p) ((j.dest.getD j.source).bay p))).reformClaim c

/-- AT_SOURCE (R63). A late one fits no stranded phase (R72). -/
def execAtSource (c : CraneNo) (s : State) : Host.Outcome State Fault Refusal :=
  s.craneEvent c (fun w =>
    match (w.st.crane c).state, w.st.craneJob? c with
    | .lead, some j => w.reachSource c j
    | _, _ => w.unfit c (fun w => w.lateCycle c (fun _ _ => false) (fun w _ => w) id))

/-! ## FETCHED -/

/-- R64: the load is on board: the tags are recorded, and an infeed head is removed. -/
def Work.takeLoad (w : Work) (c : CraneNo) (j : Job) (tag : Tag) : Work :=
  let w := w.mapCrane c (fun x => { x with load := .tag tag })
  let w := w.mapJob j.id (fun x => { x with tagRead := readTag tag })
  if j.source = .infeed then w.popInfeed j true else w

/-- R64: FETCHED OK: the tag check, then HAUL or the wrong-tag handling of R75 or R76. The standing point is a field of FETCH
and PLACE, and is dropped on entering HAUL (R55). -/
def Work.fetched (w : Work) (c : CraneNo) (j : Job) (tag : Tag) : Work :=
  let p := w.st.craneProf c
  let w := (w.takeLoad c j tag).disarm c
  if tagsDiffer j.expTag tag then w.wrongTag c { j with tagRead := readTag tag } tag
  else
    let w := (w.mapCrane c (fun x => { x with standing := none })).enter c .haul
    (w.arm c (haulEstimate p j.source (j.dest.getD j.source))).mapJob j.id (fun x => { x with state := .haul })

/-- R72, R28: a late FETCHED OK: the load is on board, and the stranded phase becomes HAUL. A wrong tag is noted, so that the
job ends FAILED TAG-MISMATCH by R66 however it then comes to its PLACED OK; its destination is left to the stranded-job
table (log entry 46). -/
def Work.lateFetched (w : Work) (c : CraneNo) (j : Job) (tag : Tag) : Work :=
  let w := (w.takeLoad c j tag).mapJob j.id (fun x => { x with state := .stranded .haul })
  if tagsDiffer j.expTag tag then w.noteMismatch j.id else w

/-- FETCHED_OK (R64). A late one applies R64 up to the tag check (R72). -/
def execFetchedOk (c : CraneNo) (tag : Tag) (s : State) : Host.Outcome State Fault Refusal :=
  s.craneEvent c (fun w =>
    match (w.st.crane c).state, (w.st.crane c).order, w.st.craneJob? c with
    | .fetch, .none, some j => w.fetched c j tag
    | _, _, _ => w.unfit c (fun w => w.lateCycle c (fun ph _ => ph = .fetch)
        (fun w j => w.lateFetched c j tag) (fun x => { x with load := .tag tag })))

/-- R70: the source was empty: an infeed head is removed, and the job ends FAILED EMPTY-SOURCE. -/
def Work.sourceEmpty (w : Work) (j : Job) : Work :=
  let w := if j.source = .infeed then w.popInfeed j false else w
  w.endJob j.id .failed (some .emptySource) .emptied none

/-- R70: FETCHED EMPTY. -/
def Work.fetchedEmpty (w : Work) (c : CraneNo) (j : Job) : Work :=
  let p := w.st.craneProf c
  let b := j.source.bay p
  let w := (w.disarm c).mapCrane c (fun x => { x with pos := some (j.source.point p) })
  (((w.sourceEmpty j).shrinkSpan c (b, b)).enter c .idle)

/-- FETCHED_EMPTY (R70). A late one applies R70 except the crane's state and span (R72). -/
def execFetchedEmpty (c : CraneNo) (s : State) : Host.Outcome State Fault Refusal :=
  s.craneEvent c (fun w =>
    match (w.st.crane c).state, (w.st.crane c).order, w.st.craneJob? c with
    | .fetch, .none, some j => w.fetchedEmpty c j
    | _, _, _ => w.unfit c (fun w => w.lateCycle c (fun ph _ => ph = .fetch)
        (fun w j => (w.latePos c (some (j.source.point (w.st.craneProf c)))).sourceEmpty j)
        (fun x => { x with load := .none })))

/-! ## AT-DESTINATION -/

/-- R65: AT-DESTINATION in HAUL. -/
def Work.reachDest (w : Work) (c : CraneNo) (j : Job) (d : Place) : Work :=
  let w := w.mapCrane c (fun x => { x with leg := some .atPlace, standing := some d })
  ((w.enter c .place).arm c (handling (w.st.craneProf c) d)).mapJob j.id (fun x => { x with state := .place })

/-- R65: the place reached by a PLACE-AGAIN; the deadline keeps running. -/
def Work.reachAgain (w : Work) (c : CraneNo) (d : Place) : Work :=
  w.mapCrane c (fun x => { x with leg := some .atPlace, standing := some d })

/-- R72: the phases and legs a late AT-DESTINATION fits. -/
def lateAtDest (ph : Phase) (leg : Option Leg) : Bool :=
  ph = .haul || (ph = .place && leg = some .travelling)

/-- AT_DESTINATION (R65). A late one moves the stranded phase to PLACE, the leg to AT-PLACE and the standing point to the
place reached (R28, R72). -/
def execAtDestination (c : CraneNo) (s : State) : Host.Outcome State Fault Refusal :=
  s.craneEvent c (fun w =>
    match (w.st.crane c).state, (w.st.crane c).leg, w.st.craneJob? c with
    | .haul, _, some j => w.reachDest c j (j.dest.getD j.source)
    | .place, some .travelling, some j => w.reachAgain c (j.dest.getD j.source)
    | _, _, _ => w.unfit c (fun w => w.lateCycle c lateAtDest
        (fun w j => (w.reachAgain c (j.dest.getD j.source)).mapJob j.id
          (fun x => { x with state := .stranded .place }))
        id))

/-! ## PLACED -/

/-- R66, step 5: how a job that ends at PLACED OK releases its locations: a wrong-tag load put back into its own source
by R11, every other placement by R9. -/
def placeRelease (j : Job) (standing : Place) (mismatch : Bool) : Release :=
  if mismatch ∧ standing = j.source then .returned else .complete

/-- R66, step 4, at the outfeed: the reservation becomes a present load with the job's group and position. -/
def Work.placeOut (w : Work) (j : Job) : Work :=
  let w := w.mapStation j.aisle (fun x =>
    { x with outfeed := x.outfeed ++ [{ tag := tagOr0 j.tagRead, member := j.group }],
             reserved := x.reserved.filter (fun i => i != j.id) })
  (w.memberPlaced j).askRelease

/-- R66, steps 2 to 5: the count, the load on board, the placement and the end of the job. -/
def Work.place (w : Work) (c : CraneNo) (j : Job) (standing : Place) : Work :=
  let interval := (w.st.craneProf c).refInterval
  let w := w.mapCrane c (fun x =>
    let n := nextCycles interval x.cycles
    { x with cycles := n, refStatus := refStatusOf interval n, load := .none })
  let w := if standing = .outfeed then w.placeOut j else w
  let mismatch := w.st.jtb.mismatched.contains j.id
  let final := match standing with | .loc l => some l | _ => none
  if mismatch then w.endJob j.id .failed (some .tagMismatch) (placeRelease j standing mismatch) final
  else w.endJob j.id .completed none (placeRelease j standing mismatch) final

/-- R66: PLACED OK ends the cycle. -/
def Work.placed (w : Work) (c : CraneNo) (j : Job) (standing : Place) : Work :=
  let p := w.st.craneProf c
  let b := standing.bay p
  let w := (w.disarm c).mapCrane c (fun x => { x with pos := some (standing.point p) })
  ((w.place c j standing).shrinkSpan c (b, b)).enter c .idle

/-- R72: the phases and legs a late PLACED fits. -/
def latePlaced (ph : Phase) (leg : Option Leg) : Bool := ph = .place && leg = some .atPlace

/-- PLACED_OK (R66). A late one applies steps 2 to 5, and step 1 for the position in FAULTED (R66, R72). -/
def execPlacedOk (c : CraneNo) (s : State) : Host.Outcome State Fault Refusal :=
  s.craneEvent c (fun w =>
    let x := w.st.crane c
    match x.state, x.leg, x.standing, w.st.craneJob? c with
    | .place, some .atPlace, some st, some j => w.placed c j st
    | _, _, _, _ => w.unfit c (fun w => w.lateCycle c latePlaced
        (fun w j =>
          match x.standing with
          | some st => (w.latePos c (some (st.point (w.st.craneProf c)))).place c j st
          | none => w.unmatched c)
        (fun x => { x with load := .none })))

/-- R11, R77: a location found occupied becomes FULL, tag 0, locked, without holder, when the job holds it; the depth
checks follow. -/
def Work.occupied (w : Work) (l : Loc) (j : Job) : Work :=
  let old := (w.st.loc l).occ.holder
  if old = some j.id then
    (w.onState (fun s => s.setLoc l { occ := .full 0, locked := true })).depthCheck l old
  else w

/-- R134: whether a location found occupied is a disposal target of a job: a place reserved for its wrong-tag load, INBOUND with
the tag read (R8). Its source at the return of R75 is OUTBOUND, and a destination of before the fetch has the expected tag
(log entry 45). -/
def State.disposalTarget (s : State) (l : Loc) (j : Job) : Bool :=
  s.jtb.mismatched.contains j.id && (s.loc l).occ == .inbound (tagOr0 j.tagRead) j.id

/-- R77, steps 1 and 2: a location found occupied is corrected, the job has note OCCUPIED (R41) and no destination, and a
disposal target is remembered (R134). -/
def Work.foundOccupied (w : Work) (l : Loc) (j : Job) : Work :=
  let w := if w.st.disposalTarget l j then w.noteTarget j.id else w
  (w.occupied l j).mapJob j.id (fun x => { x with noteOccupied := true, dest := none })

/-- R77, R79: PLACED OCCUPIED at a location, or at the outfeed. -/
def Work.placedOccupied (w : Work) (c : CraneNo) (j : Job) (standing : Place) : Work :=
  match standing with
  | .loc l => ((w.foundOccupied l j).disarm c).replace c j.id (tagOr0 j.tagRead)
  | _ => w.waitPlace c j.id .stationBlocked

/-- R72: a late PLACED OCCUPIED: the location correction, and no destination location. The job's note tells of it too, since the
load is put elsewhere later (R41; log entry 23). -/
def Work.lateOccupied (w : Work) (c : CraneNo) (j : Job) : Work :=
  match (w.st.crane c).standing with
  | some (.loc l) => w.foundOccupied l j
  | _ => w

/-- PLACED_OCCUPIED (R77, R79). -/
def execPlacedOccupied (c : CraneNo) (s : State) : Host.Outcome State Fault Refusal :=
  s.craneEvent c (fun w =>
    let x := w.st.crane c
    match x.state, x.leg, x.standing, w.st.craneJob? c with
    | .place, some .atPlace, some st, some j => w.placedOccupied c j st
    | _, _, _, _ => w.unfit c (fun w => w.lateCycle c latePlaced (fun w j => w.lateOccupied c j)
        (fun x => { x with load := .unknown })))

/-! ## MOVED -/

/-- R95, step 3: at the yielding crane's MOVED, the crane in HOLD is sent its CYCLE. -/
def Work.startHeld (w : Work) (c : CraneNo) : Work :=
  match (w.st.crane c).state, w.st.craneJob? c with
  | .hold, some j => w.sendCycle c j
  | _, _ => w

/-- R86, R95: MOVED: position and span become the target; a crane in HOLD behind a yield is sent its CYCLE; the crane
enters IDLE. -/
def Work.moved (w : Work) (c : CraneNo) (why : Purpose) (t : Nat) : Work :=
  let w := (w.disarm c).mapCrane c (fun x => { x with pos := some (t, 0), move := none })
  let w := w.shrinkSpan c (t, t)
  let w := if why = .yielding then w.startHeld (other c) else w
  w.enter c .idle

/-- MOVED (R86, R95). A late one sets the position to the move target (R72). -/
def execMoved (c : CraneNo) (s : State) : Host.Outcome State Fault Refusal :=
  s.craneEvent c (fun w =>
    match (w.st.crane c).state, (w.st.crane c).move with
    | .move, some (why, t) => w.moved c why t
    | _, m => w.unfit c (fun w => w.latePos c (m.map (fun x => (x.2, 0)))))

/-! ## REFERENCED -/

/-- The load on board that a REFERENCED reports (R83). -/
def sensedLoad (sensed : Bool) (tag : Tag) : Load := if sensed then .tag tag else .none

/-- R83, step 2, R177: position, span and load on board after a run. -/
def Work.atReference (w : Work) (c : CraneNo) (sensed : Bool) (tag : Tag) : Work :=
  let rb := refBay (w.st.craneProf c) (w.st.crane c).role
  (w.mapCrane c (fun x => { x with pos := some (rb, 0), load := sensedLoad sensed tag })).shrinkSpan c (rb, rb)

/-- R81: the count and the status at a REFERENCED with this drift: 0 and CURRENT within the limit, as they stand above it. -/
def Work.resetCycles (w : Work) (c : CraneNo) (drift : Nat) : Work :=
  if (w.st.craneProf c).driftLimit < drift then w else w.mapCrane c (fun x => { x with cycles := 0, refStatus := .current })

/-- R83: the end of a reference run. -/
def Work.endRun (w : Work) (c : CraneNo) (drift : Nat) (sensed : Bool) (tag : Tag) : Work :=
  if (w.st.craneProf c).driftLimit < drift then w.fault c .drift
  else
    let w := (w.atReference c sensed tag).resetCycles c drift
    match (w.st.craneJob? c).filter (fun j => j.state.phase?.isSome) with
    | some j => w.resolve c j sensed tag
    | none => if sensed then w.fault c .unexpectedLoad else w.enter c .idle

/-- R177: whether a run is the first one of a FULL start. -/
def State.firstRun (s : State) (c : CraneNo) : Bool :=
  match (s.aisle (aisleOf c)).start with
  | some st => st.kind = .full && st.runs c == 0
  | none => false

/-- R171: one more start run of a crane in a STARTING aisle. -/
def Work.countRun (w : Work) (c : CraneNo) : Work :=
  w.mapAisle (aisleOf c) (fun x => { x with start := x.start.map (fun st => st.addRun c) })

/-- R83, R177, R185: REFERENCED: CRANE-STATE with the drift, then the first run of a FULL start is followed by a second,
and every other run ends by R83. R177 compares no drift at the first run and names no count; by R81 a drift within the limit
sets the count to 0 there too (log entry 43). -/
def Work.referenced (w : Work) (c : CraneNo) (drift : Nat) (sensed : Bool) (tag : Tag) : Work :=
  let first := w.st.firstRun c
  let w := ({ w.disarm c with drift := some (c, drift) }).reportCrane c
  let w := (w.countRun c).startDue (aisleOf c)
  if first then ((w.atReference c sensed tag).resetCycles c drift).sendReference c else w.endRun c drift sensed tag

/-- REFERENCED (R83, R177, R185). A run that has been answered takes no second report (R60). -/
def execReferenced (c : CraneNo) (drift : Nat) (sensed : Bool) (tag : Tag) (s : State) :
    Host.Outcome State Fault Refusal :=
  s.craneEvent c (fun w =>
    match (w.st.crane c).state, (w.st.crane c).carryPending with
    | .reference, false => w.referenced c drift sensed tag
    | _, _ => w.unfit c id)

/-! ## STOPPED, and the answers to REDIRECT and ABORT -/

/-- STOPPED (R61): the wait ends, and the crane's state is not changed. -/
def execStopped (c : CraneNo) (s : State) : Host.Outcome State Fault Refusal :=
  s.craneEvent c (fun w =>
    if w.st.stopUnanswered c then (w.mapCrane c (fun x => { x with stopDeadline := none })).endOfWait c
    else w.unfit c id)

/-- R33: a displaced job is bumped, and returns to READY. -/
def Work.bump (w : Work) (j : Job) : Work :=
  (w.mapJob j.id (fun x => { x with bump := x.bump + 1, urgency := bumpUrgency x.urgency })).returnReady j.id

/-- R68: REDIRECT-TAKEN: the crane's job becomes the promised one. -/
def Work.redirectTaken (w : Work) (c : CraneNo) (j k : Job) : Work :=
  let p := w.st.craneProf c
  let claim := w.st.claimFor c k
  let w := (w.bump j).reserve k
  let w := w.mapJob k.id (fun x => { x with state := .lead })
  let w := w.mapCrane c (fun x => { x with job := some k.id, promised := none, order := .none })
  let w := w.onState (·.setClaim c none)
  let w := match claim with
    | some sp => w.setSpan c sp
    | none => w
  w.arm c (leadEstimate p (w.st.crane c).pos k.source)

/-- REDIRECT_TAKEN (R68). -/
def execRedirectTaken (c : CraneNo) (s : State) : Host.Outcome State Fault Refusal :=
  s.craneEvent c (fun w =>
    match (w.st.crane c).state, (w.st.crane c).order, w.st.craneJob? c,
        (w.st.crane c).promised.bind w.st.job? with
    | .lead, .redirect, some j, some k => w.redirectTaken c j k
    | _, _, _, _ => w.unfit c id)

/-- R68: REDIRECT-LATE: the promised job returns to READY. -/
def Work.redirectLate (w : Work) (c : CraneNo) : Work :=
  let k := (w.st.crane c).promised
  let w := w.mapCrane c (fun x => { x with promised := none, order := .none })
  (w.dropClaim c).returnPromised k

/-- Whether an answer LATE may be given (R60). -/
def CraneState.leadOrFetch : CraneState → Bool
  | .lead => true
  | .fetch => true
  | _ => false

/-- REDIRECT_LATE (R68). -/
def execRedirectLate (c : CraneNo) (s : State) : Host.Outcome State Fault Refusal :=
  s.craneEvent c (fun w =>
    match (w.st.crane c).state.leadOrFetch, (w.st.crane c).order with
    | true, .redirect => w.redirectLate c
    | _, _ => w.unfit c id)

/-- R69: the tests of a stop position: within the span, within bays 0..Bmax+1 and levels 0..Lmax. -/
def State.stopPosOk (s : State) (c : CraneNo) (bay level : Nat) : Bool :=
  let p := s.craneProf c
  decide (bay ≤ p.bays + 1) && decide (level ≤ p.levels) &&
    match (s.crane c).span with
    | some (lo, hi) => decide (lo ≤ bay) && decide (bay ≤ hi)
    | none => false

/-- R38, R69: ABORT-TAKEN: the crane stands at the stop position, and the job ends CANCELLED. -/
def Work.abortTaken (w : Work) (c : CraneNo) (j : Job) (bay level : Nat) : Work :=
  let cause := ((j.cancelReq.map CancelBy.cause).getD .host)
  let w := (w.disarm c).mapCrane c (fun x => { x with pos := some (bay, level), order := .none })
  ((w.endJob j.id .cancelled (some cause) .giveBack none).shrinkSpan c (bay, bay)).enter c .idle

/-- ABORT_TAKEN (R69). A stop position that R69 rejects is a protocol fault (R71); a late one sets the position when it
passes the tests (R72). -/
def execAbortTaken (c : CraneNo) (bay level : Nat) (s : State) : Host.Outcome State Fault Refusal :=
  s.craneEvent c (fun w =>
    match (w.st.crane c).state, (w.st.crane c).order, w.st.craneJob? c with
    | .lead, .abort, some j =>
      if w.st.stopPosOk c bay level then w.abortTaken c j bay level else w.fault c .protocol
    | _, _, _ => w.unfit c (fun w => if w.st.stopPosOk c bay level then w.latePos c (some (bay, level)) else w))

/-- R38, R69: ABORT-LATE: the order is cleared, the cancel request is dropped, and note LATE-CANCEL is set. -/
def Work.abortLate (w : Work) (c : CraneNo) : Work :=
  let w := match (w.st.crane c).job with
    | some id => w.mapJob id (fun x => { x with cancelReq := none, noteLate := true })
    | none => w
  w.mapCrane c (fun x => { x with order := .none })

/-- ABORT_LATE (R69). -/
def execAbortLate (c : CraneNo) (s : State) : Host.Outcome State Fault Refusal :=
  s.craneEvent c (fun w =>
    match (w.st.crane c).state.leadOrFetch, (w.st.crane c).order with
    | true, .abort => w.abortLate c
    | _, _ => w.unfit c id)

/-! ## ECHO, CRANE-FAULT and frames that do not fit -/

/-- R176: the outstanding frame is decided by an ECHO. A body of another length than the PROBE's counts an error, as any other
body that differs; the ECHO that the end of R176 and R58 make a misfit is a MISFIT_REPORT, and which of the two a frame of
that length is, the command says (log entry 51). -/
def Work.echoed (w : Work) (c : CraneNo) (frame : Nat) (body : List Byte) : Work :=
  let e := (w.st.provingOf c).errors
  w.afterFrame c frame (if body = probeBody frame then e else e + 1)

/-- ECHO (R176). One that names another frame, or comes while no proving is in progress, is discarded. -/
def execEcho (c : CraneNo) (frame : Nat) (body : List Byte) (s : State) : Host.Outcome State Fault Refusal :=
  s.craneEvent c (fun w =>
    if (w.st.crane c).state = .offline ∧ (w.st.crane c).link = .proving ∧
        (w.st.provingOf c).frame = some frame then w.echoed c frame body
    else w.unfit c id)

/-- CRANE_FAULT (R71). -/
def execCraneFault (c : CraneNo) (code : Nat) (s : State) : Host.Outcome State Fault Refusal :=
  s.craneEvent c (fun w =>
    match (w.st.crane c).state with
    | .offline => w
    | .faulted => (w.mapCrane c (fun x => { x with fault := some (.code code) })).reportCrane c
    | .stopped => (w.mapCrane c (fun x => { x with fault := some (.code code) })).reportCrane c
    | _ => w.fault c (.code code))

/-- MISFIT_REPORT (R58, R60). -/
def execMisfitReport (c : CraneNo) (s : State) : Host.Outcome State Fault Refusal :=
  s.craneEvent c (fun w => w.unfit c id)

/-- CRANE_FRAME_DISCARDED (R55, R58): nothing is changed, whatever the frame was discarded for. -/
def execCraneFrameDiscarded (_c : CraneNo) (_why : CraneDiscard) (s : State) : Host.Outcome State Fault Refusal :=
  .next s

end Sys2Proof.Machine
end

