-- ==== Sys2Proof/Machine/Operands.lean ====
section
/-! DEFINITION. The operand forms: the bodies of SUBMIT-JOB and SUBMIT-RUN read by the layouts of section 11.8 and checked in
the orders of R22 and R137, the fields of a request that name a record (jobs, runs, groups, aisles, cranes), and the
profile with its checks and clamps (R172). -/

namespace Sys2Proof.Machine

/-! ## Bytes -/

/-- The byte at an offset; the layouts read only within a body of a checked length. -/
def byteAt (b : List Byte) (i : Nat) : Nat := (b.getD i 0).toNat

/-- A two-byte field, most significant byte first. -/
def twoAt (b : List Byte) (i : Nat) : Nat := byteAt b i * 256 + byteAt b (i + 1)

/-- A four-byte field, most significant byte first. -/
def fourAt (b : List Byte) (i : Nat) : Nat := twoAt b i * 65536 + twoAt b (i + 2)

/-- The two bytes of a field, most significant byte first. -/
def twoBytes (n : Nat) : List Byte := [BitVec.ofNat 8 (n / 256), BitVec.ofNat 8 n]

/-- The four bytes of a field, most significant byte first. -/
def fourBytes (n : Nat) : List Byte := twoBytes (n / 65536) ++ twoBytes n

/-! ## SUBMIT-JOB (R22, section 11.8) -/

/-- A place as a body carries it: its type and the four address bytes. -/
structure RawPlace where
  type : Nat
  side : Nat
  bay : Nat
  level : Nat
  depth : Nat
deriving DecidableEq, Repr

/-- The five bytes of a place. -/
def placeAt (b : List Byte) (i : Nat) : RawPlace :=
  { type := byteAt b i, side := byteAt b (i + 1), bay := byteAt b (i + 2), level := byteAt b (i + 3),
    depth := byteAt b (i + 4) }

/-- A body of SUBMIT-JOB that check 1 of R22 admits. -/
structure JobBody where
  id : Nat
  kind : JobKind
  aisle : Nat
  queue : Nat
  urgency : Nat
  tag : Tag
  source : RawPlace
  dest : RawPlace
  group : Option (GroupId × Nat)
deriving DecidableEq, Repr

/-- The kind a byte names. -/
def jobKindOf : Nat → Option JobKind
  | 1 => some .store
  | 2 => some .retrieve
  | 3 => some .relocate
  | _ => none

/-- R22, check 1: the place types a kind has, source and destination: 0 LOCATION, 1 REAR-INFEED, 2 FRONT-OUTFEED. -/
def placeTypes : JobKind → Nat × Nat
  | .store => (1, 0)
  | .retrieve => (0, 2)
  | .relocate => (0, 0)
  | .clearance => (0, 0)

/-- R22, check 1. -/
def parseJob (b : List Byte) : Option JobBody :=
  match jobKindOf (byteAt b 4) with
  | none => none
  | some k =>
    let grouped := b.length = 25 ∧ k = .retrieve
    let src := placeAt b 12
    let dst := placeAt b 17
    if (b.length = 22 ∨ grouped) ∧ (src.type, dst.type) = placeTypes k then
      some { id := fourAt b 0, kind := k, aisle := byteAt b 5, queue := byteAt b 6, urgency := byteAt b 7,
             tag := BitVec.ofNat 32 (fourAt b 8), source := src, dest := dst,
             group := if grouped then some (twoAt b 22, byteAt b 24) else none }
    else none

/-- The byte of a kind (section 11.8). -/
def jobKindByte : JobKind → Nat
  | .store => 1
  | .retrieve => 2
  | .relocate => 3
  | .clearance => 0

/-- The five bytes of a place (section 11.8). -/
def RawPlace.bytes (x : RawPlace) : List Byte := [x.type, x.side, x.bay, x.level, x.depth].map (BitVec.ofNat 8)

/-- The bytes of a body of SUBMIT-JOB (section 11.8). -/
def JobBody.bytes (b : JobBody) : List Byte :=
  fourBytes b.id ++ [jobKindByte b.kind, b.aisle, b.queue, b.urgency].map (BitVec.ofNat 8) ++ fourBytes b.tag.toNat ++
    b.source.bytes ++ b.dest.bytes ++
    match b.group with
    | some (g, k) => twoBytes g ++ [BitVec.ofNat 8 k]
    | none => []

/-- R22, check 5, for a place that is a location. -/
def RawPlace.check (p : Profile) (a : AisleNo) (x : RawPlace) (station : Place) : Except Result Place :=
  if x.type = 0 then
    match checkFields p a x.side x.bay x.level x.depth with
    | some l => .ok (.loc l)
    | none => .error .outOfRange
  else .ok station

/-- A queue number (checks of R22 and R137). -/
def queueNo? (n : Nat) : Option QueueNo := if h : n < 16 then some ⟨n, h⟩ else none

/-- R22, check 10: the group exists, the position lies in 1..count and is FREE. -/
def State.groupFree (s : State) (gid k : Nat) : Bool :=
  match s.group? gid with
  | none => false
  | some g => decide (1 ≤ k) && decide (k ≤ g.count) && g.position? k == some .free

/-- R22, check 9. -/
def State.tagConflict (s : State) (kind : JobKind) (source : Place) (tag : Tag) : Bool :=
  (kind = .retrieve || kind = .relocate) &&
    match source with
    | .loc l =>
      match (s.loc l).occ with
      | .full t => tagsDiffer tag t
      | _ => false
    | _ => false

/-- The record R23 writes for a submitted job; its stamp and its wait reasons are written at its admission. -/
def JobBody.toJob (b : JobBody) (a : AisleNo) (q : QueueNo) (source dest : Place) : Job :=
  { id := b.id, kind := b.kind, aisle := a, source := source, dest := some dest, expTag := b.tag,
    urgency := clampUrgency b.urgency, queue := q, group := b.group, run := none, parent := none, state := .waiting,
    waits := {}, crane := none, bump := 0, stamp := 0, readySince := none, tagRead := none, cancelReq := none,
    noteOccupied := false, noteLate := false }

/-- R22, checks 5 to 10, for an aisle with a profile. -/
def State.checkPlaces (s : State) (b : JobBody) (a : AisleNo) (q : QueueNo) (p : Profile) :
    Except Result (Job × DepthWaits) := do
  let source ← b.source.check p a .infeed
  let dest ← b.dest.check p a .outfeed
  if !s.recordFree then .error .tableFull
  else if !reachable p b.kind source (some dest) then .error .unreachable
  else
    match s.check8 p b.kind source (some dest) with
    | none => .error .locationConflict
    | some d =>
      if s.tagConflict b.kind source b.tag then .error .tagConflict
      else if b.group.any (fun g => !s.groupFree g.1 g.2) then .error .groupConflict
      else .ok (b.toJob a q source dest, d)

/-- R22: the ten checks in their order; the job to be admitted, and what the depth rules give it. -/
def State.checkJob (s : State) (body : List Byte) : Except Result (Job × DepthWaits) :=
  match parseJob body with
  | none => .error .malformed
  | some b =>
    match queueNo? b.queue with
    | none => .error .outOfRange
    | some q =>
      if b.id = 0 ∨ Config.firstInternalId ≤ b.id then .error .outOfRange
      else if s.isLive b.id then .error .duplicateId
      else
        match aisleNo? b.aisle with
        | none => .error .outOfRange
        | some a =>
          match (s.aisle a).profile with
          | none => .error .noProfile
          | some p => s.checkPlaces b a q p

/-! ## SUBMIT-RUN (R137, section 11.8) -/

/-- A body of SUBMIT-RUN that check 1 of R137 admits. -/
structure RunBody where
  id : Nat
  kind : RunKind
  aisle : Nat
  side : Nat
  bay : Nat
  level : Nat
  depth : Nat
  step : RunStep
  lane : Bool
  stopOnFailure : Bool
  count : Nat
  window : Nat
  urgency : Nat
  queue : Nat
  group : Option (GroupId × Nat)
deriving DecidableEq, Repr

/-- The kind a byte names. -/
def runKindOf : Nat → Option RunKind
  | 1 => some .store
  | 2 => some .retrieve
  | _ => none

/-- The step a byte names. -/
def runStepOf : Nat → Option RunStep
  | 1 => some .bay
  | 2 => some .level
  | _ => none

/-- R137, check 1. -/
def parseRun (b : List Byte) : Option RunBody :=
  match runKindOf (byteAt b 2), runStepOf (byteAt b 8) with
  | some k, some st =>
    let grouped := b.length = 17 ∧ k = .retrieve
    let opts := byteAt b 9
    if (b.length = 14 ∨ grouped) ∧ opts ≤ 3 then
      some { id := twoAt b 0, kind := k, aisle := byteAt b 3, side := byteAt b 4, bay := byteAt b 5,
             level := byteAt b 6, depth := byteAt b 7, step := st, lane := opts % 2 = 1,
             stopOnFailure := 2 ≤ opts, count := byteAt b 10, window := byteAt b 11, urgency := byteAt b 12,
             queue := byteAt b 13, group := if grouped then some (twoAt b 14, byteAt b 16) else none }
    else none
  | _, _ => none

/-- The byte of a kind (section 11.8). -/
def runKindByte : RunKind → Nat
  | .store => 1
  | .retrieve => 2

/-- The byte of a step (section 11.8). -/
def runStepByte : RunStep → Nat
  | .bay => 1
  | .level => 2

/-- The bytes of a body of SUBMIT-RUN (section 11.8). -/
def RunBody.bytes (b : RunBody) : List Byte :=
  twoBytes b.id ++
    [runKindByte b.kind, b.aisle, b.side, b.bay, b.level, b.depth, runStepByte b.step,
     (if b.lane then 1 else 0) + (if b.stopOnFailure then 2 else 0), b.count, b.window, b.urgency,
     b.queue].map (BitVec.ofNat 8) ++
    match b.group with
    | some (g, k) => twoBytes g ++ [BitVec.ofNat 8 k]
    | none => []

/-- R137: a window is clamped to 1–4. -/
def clampWindow (n : Nat) : Nat := max 1 (min n 4)

/-- R137, check 7: the positions from `k` on, `n` of them, are FREE in an existing group. -/
def State.blockFree (s : State) (gid k n : Nat) : Bool :=
  match s.group? gid with
  | none => false
  | some g =>
    decide (1 ≤ k) && decide (k + n ≤ g.count + 1) &&
      (List.range n).all (fun i => g.position? (k + i) == some .free)

/-- R138: the record of an admitted run. -/
def RunBody.toRun (b : RunBody) (a : AisleNo) (q : QueueNo) (start : Loc) : Run :=
  { id := b.id, kind := b.kind, aisle := a, pointer := some start, step := b.step, lane := b.lane, count := b.count,
    toSpawn := b.count, live := 0, window := clampWindow b.window, urgency := clampUrgency b.urgency, queue := q,
    group := b.group.map (fun g => { id := g.1, next := g.2, last := g.2 + b.count - 1 }),
    stopOnFailure := b.stopOnFailure, cause := none, completed := 0, failed := 0, skipped := 0 }

/-- R137: the seven checks in their order. -/
def State.checkRun (s : State) (body : List Byte) : Except Result Run :=
  match parseRun body with
  | none => .error .malformed
  | some b =>
    if b.id = 0 then .error .outOfRange
    else if (s.run? b.id).isSome then .error .duplicateId
    else
      match queueNo? b.queue with
      | none => .error .outOfRange
      | some q =>
        if b.count = 0 then .error .outOfRange
        else
          match aisleNo? b.aisle with
          | none => .error .outOfRange
          | some a =>
            match (s.aisle a).profile with
            | none => .error .noProfile
            | some p =>
              match checkFields p a b.side b.bay b.level b.depth with
              | none => .error .outOfRange
              | some l =>
                if Config.maxRuns ≤ s.rnu.runs.length then .error .tableFull
                else if b.group.any (fun g => !s.blockFree g.1 g.2 b.count) then .error .groupConflict
                else .ok (b.toRun a q l)

/-! ## Fields that name a record -/

/-- R31, R35: a live host job. -/
def State.hostJob (s : State) (id : Nat) : Except Result Job :=
  if id = 0 ∨ Config.firstInternalId ≤ id then .error .noSuchId
  else
    match s.job? id with
    | some j => .ok j
    | none => .error .noSuchId

/-- R42: a live job. -/
def State.anyJob (s : State) (id : Nat) : Except Result Job :=
  if id = 0 then .error .noSuchId
  else
    match s.job? id with
    | some j => .ok j
    | none => .error .noSuchId

/-- R145, R148: a live run. -/
def State.liveRun (s : State) (id : Nat) : Except Result Run :=
  if id = 0 then .error .noSuchId
  else
    match s.run? id with
    | some r => .ok r
    | none => .error .noSuchId

/-- R163, R169: an existing group. -/
def State.existingGroup (s : State) (id : Nat) : Except Result Group :=
  if id = 0 then .error .noSuchId
  else
    match s.group? id with
    | some g => .ok g
    | none => .error .noSuchId

/-- An aisle 0–7, refused OUT-OF-RANGE otherwise. -/
def checkAisle (n : Nat) : Except Result AisleNo :=
  match aisleNo? n with
  | some a => .ok a
  | none => .error .outOfRange

/-- A crane 0–15, refused OUT-OF-RANGE otherwise. -/
def checkCrane (n : Nat) : Except Result CraneNo := if h : n < 16 then .ok ⟨n, h⟩ else .error .outOfRange

/-- An aisle field of a request: MALFORMED, then OUT-OF-RANGE. -/
def aisleField (a : Option Nat) : Except Result AisleNo := do checkAisle (← needed a)

/-- A crane field of a request: MALFORMED, then OUT-OF-RANGE. -/
def craneField (c : Option Nat) : Except Result CraneNo := do checkCrane (← needed c)

/-! ## Profiles (R172) -/

/-- Whether a number lies in a range. -/
def within (lo hi n : Nat) : Bool := decide (lo ≤ n) && decide (n ≤ hi)

/-- R172: the aging step: 0, or clamped into 10–3,600. -/
def clampAging (n : Nat) : Nat := if n = 0 then 0 else max 10 (min n 3600)

/-- R172: the profile with its clamped values. -/
def clampProfile (r : RawProfile) : Profile :=
  { bays := r.bays, levels := r.levels, doubleDeep := r.doubleDeep.getD false, craneCount := r.craneCount,
    bayPitch := r.bayPitch, levelPitch := r.levelPitch, vx := r.vx, ax := r.ax, vy := r.vy, ay := r.ay,
    forkNear := r.forkNear, forkFar := max r.forkFar r.forkNear, separation := r.separation,
    overrunPercent := min r.overrunPercent 100, overrunMargin := min r.overrunMargin 60000,
    refInterval := max 50 (min r.refInterval 5000), driftLimit := min r.driftLimit 50,
    parkDelay := min r.parkDelay 600, parkFront := r.parkFront, parkRear := r.parkRear,
    agingStep := clampAging r.agingStep, infeedCap := r.infeedCap, outfeedCap := r.outfeedCap,
    provingAllowance := r.provingAllowance }

/-- R172, check 4: the fields marked "refused" lie in their ranges. -/
def profileInRange (r : RawProfile) : Bool :=
  within 1 96 r.bays && within 1 24 r.levels && r.doubleDeep.isSome && within 1 2 r.craneCount &&
    within 500 4000 r.bayPitch && within 300 3000 r.levelPitch && within 500 6000 r.vx && within 100 2000 r.ax &&
    within 200 3000 r.vy && within 100 2000 r.ay && within 1000 30000 r.forkNear && within 1000 60000 r.forkFar &&
    within 1 8 r.separation && within 1 4 r.infeedCap && within 1 4 r.outfeedCap && within 0 7 r.provingAllowance

/-- R172, check 4: the park bays lie within the reach of the cranes that park there; in a single-crane aisle the rear
one lies in 0..Bmax+1. -/
def parksOk (r : RawProfile) : Bool :=
  let p := clampProfile r
  if r.craneCount = 2 then inReach p .front r.parkFront && inReach p .rear r.parkRear
  else inReach p .sole r.parkFront && inReach p .sole r.parkRear

/-- R172, check 4. -/
def profileOk (r : RawProfile) : Bool :=
  profileInRange r && (r.craneCount ≠ 2 || decide (2 * r.separation + 2 ≤ r.bays)) && parksOk r

/-- R172, check 5: whether a new profile changes the geometry of an old one. -/
def Profile.sameGeometry (x y : Profile) : Bool :=
  x.bays == y.bays && x.levels == y.levels && x.doubleDeep == y.doubleDeep && x.craneCount == y.craneCount

/-- Whether a live job or a live run names an aisle (R172). -/
def State.aisleInUse (s : State) (a : AisleNo) : Bool :=
  s.jtb.jobs.any (fun j => j.aisle = a) || s.rnu.runs.any (fun r => r.aisle = a)

/-- R172: the checks in their order; the aisle and the clamped profile. -/
def State.checkProfile (s : State) (req : Option ProfileReq) : Except Result (AisleNo × Profile) := do
  let r ← needed req
  let a ← checkAisle r.aisle
  let p := clampProfile r.profile
  if (s.aisle a).state ≠ .closed then .error .wrongState
  else if !profileOk r.profile then .error .outOfRange
  else if (s.aisle a).profile.any (fun old => !old.sameGeometry p) && s.aisleInUse a then .error .wrongState
  else if p.infeedCap < (s.station a).infeed.length ∨ p.outfeedCap < s.outfeedSum a then .error .wrongState
  else .ok (a, p)

end Sys2Proof.Machine
end

