-- ==== Sys2Proof/Machine/AisleRequests.lean ====
section
/-! DEFINITION. The aisle requests: SET_PROFILE (R172, R173), OPEN_AISLE (R174), CLOSE_AISLE (R180), LOCKOUT_AISLE (R182,
R183), RELEASE_AISLE (R184), SET_CEILING (R112), EDIT_SCHEDULE (R117), COMMIT_SCHEDULE (R118), QUERY_AISLE (R193). -/

namespace Sys2Proof.Machine

/-! ## SET_PROFILE -/

/-- R55: the role of a crane under a crane count. -/
def roleOf (craneCount : Nat) (c : CraneNo) : Role :=
  if craneCount = 1 then (if c.val % 2 = 0 then .sole else .absent)
  else if c.val % 2 = 0 then .front else .rear

/-- R173: a crane after an accepted SET-PROFILE: its role, the values of a hardware reset when it is ABSENT, and its count
held at the new interval plus 8 with the status that follows from it. -/
def Crane.underProfile (x : Crane) (p : Profile) (c : CraneNo) : Crane :=
  match roleOf p.craneCount c with
  | .absent => Crane.reset
  | r =>
    let n := min x.cycles (p.refInterval + Config.forcedExcess)
    { x with role := r, cycles := n, refStatus := refStatusOf p.refInterval n }

/-- R3, R173: an accepted SET-PROFILE. The location records of the aisle are created anew at its first profile and at a
change of its geometry. -/
def State.applyProfile (s : State) (a : AisleNo) (p : Profile) : State :=
  let keep := (s.aisle a).profile.any (fun old => old.sameGeometry p)
  let s := s.mapAisle a (fun x => { x with profile := some p })
  let s := if keep then s else { s with ltb := s.ltb.dropAisle a }
  let s := (cranesOf a).foldl (fun s c => s.mapCrane c (fun x => x.underProfile p c)) s
  (cranesOf a).foldl (fun s c => if s.present c then s else s.setProving c .reset) s

/-- SET_PROFILE (R172, R173): the work and the answer. -/
def onSetProfile (req : Option ProfileReq) (s : State) : Work × Answer :=
  checked s (s.checkProfile req) (fun x => done (.start (s.applyProfile x.1 x.2)))

/-! ## OPEN, CLOSE, LOCKOUT, RELEASE -/

/-- R174: the checks of OPEN-AISLE. -/
def State.checkOpen (s : State) (a : Option Nat) : Except Result AisleNo := do
  let a ← aisleField a
  if (s.aisle a).profile.isNone then .error .noProfile
  else if (s.aisle a).state ≠ .closed then .error .wrongState
  else .ok a

/-- OPEN_AISLE (R174): the work and the answer. -/
def onOpenAisle (aisle : Option Nat) (s : State) : Work × Answer :=
  checked s (s.checkOpen aisle) (fun a => done ((Work.start s).beginFull a))

/-- An aisle field whose aisle must pass a test of its state, refused WRONG-STATE otherwise. -/
def State.checkState (s : State) (a : Option Nat) (ok : AisleState → Bool) : Except Result AisleNo := do
  let a ← aisleField a
  if ok (s.aisle a).state then .ok a else .error .wrongState

/-- R180: the close of an OPEN aisle begins. -/
def Work.beginClose (w : Work) (a : AisleNo) : Work :=
  let w := (w.leaveOpen a).mapAisle a (fun x => { x with state := .closing })
  (w.reportAisle a none).closeDue a

/-- CLOSE_AISLE (R180): the work and the answer. -/
def onCloseAisle (aisle : Option Nat) (s : State) : Work × Answer :=
  checked s (s.checkState aisle (fun x => x = .opened)) (fun a => done ((Work.start s).beginClose a))

/-- R183: the resume mode a lockout sets. -/
def Aisle.resumeMode (x : Aisle) : StartKind :=
  match x.state, x.start with
  | .starting, some st => st.kind
  | _, _ => .release

/-- R182: a lockout; in LOCKOUT nothing is changed. -/
def Work.lockoutAisle (w : Work) (a : AisleNo) : Work :=
  if (w.st.aisle a).state = .lockout then w else w.lockout a (w.st.aisle a).resumeMode none

/-- LOCKOUT_AISLE (R182, R183): the work and the answer. -/
def onLockoutAisle (aisle : Option Nat) (s : State) : Work × Answer :=
  checked s (s.checkState aisle (fun x => x ≠ .closed)) (fun a => done ((Work.start s).lockoutAisle a))

/-- R184: a release with resume mode RELEASE: the REFERENCING phase begins, with one REFERENCE for each present crane. -/
def Work.beginRelease (w : Work) (a : AisleNo) : Work :=
  let w := w.mapAisle a (fun x =>
    { x with state := .starting, resume := none,
             start := some { kind := .release, phase := .referencing, runsFront := 0, runsRear := 0 } })
  let w := w.reportAisle a none
  (w.st.presentOf a).foldl (fun w c => w.startReference c) w

/-- R184: a release with resume mode FULL: STOPPED cranes enter OFFLINE, and the whole start is repeated. -/
def Work.releaseFull (w : Work) (a : AisleNo) : Work :=
  let w := (w.st.presentOf a).foldl
    (fun w c => if (w.st.crane c).state = .stopped then w.goOffline c none else w) w
  w.beginFull a

/-- R184: a release, by the resume mode. -/
def Work.releaseAisle (w : Work) (a : AisleNo) : Work :=
  match (w.st.aisle a).resume with
  | some .full => w.releaseFull a
  | _ => w.beginRelease a

/-- RELEASE_AISLE (R184): the work and the answer. -/
def onReleaseAisle (aisle : Option Nat) (s : State) : Work × Answer :=
  checked s (s.checkState aisle (fun x => x = .lockout)) (fun a => done ((Work.start s).releaseAisle a))

/-! ## The ceiling and the schedule -/

/-- R112: the ceiling is written, clamped to 7; a raise causes the evaluation and the sweep. -/
def Work.setCeiling (w : Work) (a : AisleNo) (v : Nat) : Work :=
  let old := (w.st.aisle a).ceiling
  let w := w.mapAisle a (fun x => { x with ceiling := min v 7 })
  if old < min v 7 then { w with evals := w.evals ++ [a], sweeps := w.sweeps ++ [a] } else w

/-- R112: the checks. -/
def checkCeiling (req : Option CeilingReq) : Except Result (AisleNo × Nat) := do
  let r ← needed req
  let a ← checkAisle r.aisle
  .ok (a, r.value)

/-- SET_CEILING (R112): the work and the answer. -/
def onSetCeiling (req : Option CeilingReq) (s : State) : Work × Answer :=
  checked s (checkCeiling req) (fun x => done ((Work.start s).setCeiling x.1 x.2))

/-- R117: the size of a list. -/
def listSize : ListName → Nat
  | .wheel => 64
  | .priority => 16
  | .firstRotation => 16
  | .secondRotation => 16

/-- R117, check 4: an entry whose queue is 0–15 or EMPTY and whose filters lie in their sets. -/
def entryOf (e : RawEntry) : Option Entry :=
  match e.kind, e.crane with
  | some k, some f =>
    match e.queue with
    | .empty => some { queue := none, kind := k, crane := f }
    | .number n => (queueNo? n).map (fun q => { queue := some q, kind := k, crane := f })
  | _, _ => none

/-- Entries written at an index and the indices after it. -/
def writeEntries {n : Nat} : Vector Entry n → Nat → List Entry → Vector Entry n
  | v, _, [] => v
  | v, i, e :: es => writeEntries (v.setIfInBounds i e) (i + 1) es

/-- R117: entries written into a list, and a given count, clamped to the list's size. -/
def SchedList.edited {n : Nat} (l : SchedList n) (first : Nat) (es : List Entry) (count : Option Nat) : SchedList n :=
  { entries := writeEntries l.entries first es, count := (count.map (fun c => min c n)).getD l.count }

/-- R117: one list of a copy edited. -/
def Schedule.edited (x : Schedule) (list : ListName) (first : Nat) (es : List Entry) (count : Option Nat) : Schedule :=
  match list with
  | .wheel => { x with wheel := x.wheel.edited first es count }
  | .priority => { x with priority := x.priority.edited first es count }
  | .firstRotation => { x with rot1 := x.rot1.edited first es count }
  | .secondRotation => { x with rot2 := x.rot2.edited first es count }

/-- R117: the checks in their order; the aisle, the list, and the entries. -/
def checkEdit (req : Option EditReq) : Except Result (AisleNo × ListName × EditReq × List Entry) := do
  let r ← needed req
  if r.declared ≠ r.entries.length ∨ (r.entries = [] ∧ r.count = none) then .error .malformed
  else
    let a ← checkAisle r.aisle
    match r.list with
    | none => .error .outOfRange
    | some l =>
      if listSize l < r.first + r.entries.length then .error .outOfRange
      else
        match r.entries.mapM entryOf with
        | none => .error .outOfRange
        | some es => .ok (a, l, r, es)

/-- EDIT_SCHEDULE (R117): only the pending copy is written. -/
def onEditSchedule (req : Option EditReq) (s : State) : Work × Answer :=
  checked s (checkEdit req) (fun x =>
    done (.start (s.mapAisle x.1 (fun a =>
        { a with pendingCopy := a.pendingCopy.edited x.2.1 x.2.2.1.first x.2.2.2 x.2.2.1.count }))))

/-- R118: a commit: the copy is marked in an OPEN aisle with a wheel, and adopted at once otherwise. -/
def Work.commit (w : Work) (a : AisleNo) : Work :=
  if (w.st.aisle a).state = .opened then
    if 0 < (w.st.aisle a).active.wheel.count then w.mapAisle a (fun x => { x with marked := true })
    else (w.adopt a).evalAisle a
  else w.adopt a

/-- COMMIT_SCHEDULE (R118): the work and the answer. -/
def onCommitSchedule (aisle : Option Nat) (s : State) : Work × Answer :=
  checked s (aisleField aisle) (fun a => done ((Work.start s).commit a))

/-- R193: what QUERY-AISLE answers. -/
def State.aisleAnswer (s : State) (a : AisleNo) : AisleAnswer :=
  { record := s.aisle a, spanFront := (s.crane (frontOf a)).span, spanRear := (s.crane (rearOf a)).span,
    pause := s.hli.pause }

/-- QUERY_AISLE (R193): the work and the answer. -/
def onQueryAisle (aisle : Option Nat) (s : State) : Work × Answer :=
  checked s (aisleField aisle) (fun a => answered s (.aisle (s.aisleAnswer a)))

end Sys2Proof.Machine
end

