-- ==== Sys2Proof/Machine/CraneRequests.lean ====
section
/-! DEFINITION. The crane requests: CLEAR_CRANE (R80), QUERY_CRANE (R193). -/

namespace Sys2Proof.Machine

/-- R80: the checks of CLEAR-CRANE in their order. -/
def State.checkClear (s : State) (c : Option Nat) : Except Result CraneNo := do
  let c ← craneField c
  if (s.crane c).state ≠ .faulted then .error .wrongState
  else if s.stopUnanswered c then .error .busy
  else .ok c

/-- CLEAR_CRANE (R80): the fault cause is dropped and REFERENCE is sent. -/
def onClearCrane (crane : Option Nat) (s : State) : Work × Answer :=
  checked s (s.checkClear crane) (fun c => done ((Work.start s).sendReference c))

/-- R53, R193: the cycle estimate of a crane in HOLD or LEAD. -/
def State.queryEstimate (s : State) (c : CraneNo) : Option Ms :=
  let x := s.crane c
  if x.state = .hold ∨ x.state = .lead then
    (s.craneJob? c).map (fun j => cycleEstimate (s.craneProf c) x.pos j.source (j.dest.getD j.source))
  else none

/-- R55, R175, R193: what QUERY-CRANE answers: the record with its number and aisle, and role and state alone for an ABSENT
crane. -/
def State.craneAnswer (s : State) (c : CraneNo) : ReplyData :=
  let x := s.crane c
  if x.role = .absent then .absentCrane x.role x.state
  else
    .crane { number := c, aisle := aisleOf c, crane := x, stopUnanswered := s.stopUnanswered c,
             cycleEstimate := s.queryEstimate c,
             proving := if x.link = .proving then some (s.provingOf c) else none }

/-- QUERY_CRANE (R193): the work and the answer. -/
def onQueryCrane (crane : Option Nat) (s : State) : Work × Answer :=
  checked s (craneField crane) (fun c => answered s (s.craneAnswer c))

end Sys2Proof.Machine
end

