-- ==== Sys2Proof/Machine/HostLink.lean ====
section
/-! DEFINITION. The host link and the resets: HARDWARE_RESET (R195), STATION_LINK_UP (R151), HOST_FRAME_RECEIVED (R187,
R188), and what IDENTIFY (R193) and RESTART (R194) do; the bytes of the frames that the part sends (R187). -/

namespace Sys2Proof

/-- The number of a request kind, in the kind byte of a request and of its reply: a free value (log entry 29). -/
opaque Config.requestNumber : Machine.RequestKind → Byte

/-- The number of a report kind: a free value (log entry 29). -/
opaque Config.reportNumber : Machine.ReportKind → Byte

/-- The bytes of the body of a frame the part sends: a free value (log entry 29). -/
opaque Config.sentBody : Machine.OutFrame → List Byte

end Sys2Proof

namespace Sys2Proof.Machine

/-- HARDWARE_RESET (R195): every block takes its hardware-reset values; nothing is sent. -/
def execHardwareReset (s : State) : Host.Outcome State Fault Refusal :=
  .next { State.reset with pending := s.pending }

/-- R151: the stations, the collector and the rotation start take their reset values, and RESYNC is sent. An infeed or an
outfeed that this empties has its claim evaluated and its room noticed, as after any such change (R155, R156; log entry
9). -/
def Work.resync (w : Work) : Work :=
  let old := w.st.stu.stations
  let w := (w.onState (fun s => { s with stu := { Stu.reset with linkUp := true } })).stationOrder .resync
  (allAisles.filter (fun a => old[a] ≠ Station.reset)).foldl (fun w a => (w.claimDue a).roomNotice a) w

/-- STATION_LINK_UP (R151): when the station link comes up after a hardware reset, RESYNC is sent, over empty stations. -/
def execStationLinkUp (s : State) : Host.Outcome State Fault Refusal :=
  if s.stu.linkUp then .next s else .next (Work.start s).resync.finish

/-! ## Frames -/

/-- R187: `n` shifts of the CRC-16 with polynomial 0x1021, most significant bit first. -/
def crcShift : Nat → BitVec 16 → BitVec 16
  | 0, c => c
  | n + 1, c => crcShift n (if c.msb then (c <<< 1) ^^^ 0x1021 else c <<< 1)

/-- R187: one byte of the check. -/
def crcByte (c : BitVec 16) (b : Byte) : BitVec 16 := crcShift 8 (c ^^^ (b.setWidth 16 <<< 8))

/-- R187: CRC-16, polynomial 0x1021, initial value 0xFFFF, no reflection, no final inversion. -/
def crc16 (bs : List Byte) : BitVec 16 := bs.foldl crcByte 0xFFFF

/-- R187: the sync byte. -/
def syncByte : Byte := 0xC3

/-- What the bytes that follow a sync byte give. -/
inductive FrameRead where
  /-- the frame is not complete -/
  | wait
  /-- the frame is discarded -/
  | discard
  /-- a received frame, and the bytes behind it -/
  | frame (f : HostFrame) (rest : List Byte)
deriving DecidableEq, Repr

/-- R187: a frame is read from the bytes after its sync byte. -/
def readFrame (bs : List Byte) : FrameRead :=
  if bs.length < 2 then .wait
  else
    let len := twoAt bs 0
    if len < 3 ∨ 3 + Config.hostBody < len then .discard
    else if bs.length < 2 + len + 2 then .wait
    else if crc16 (bs.take (2 + len)) = BitVec.ofNat 16 (twoAt bs (2 + len)) then
      .frame { kind := bs.getD 2 0, tag := BitVec.ofNat 16 (twoAt bs 3), body := (bs.take (2 + len)).drop 5 }
        (bs.drop (2 + len + 2))
    else .discard

/-- R187: the length field, the kind, the tag and the body of a frame. -/
def HostFrame.fields (f : HostFrame) : List Byte :=
  twoBytes (3 + f.body.length) ++ f.kind :: twoBytes f.tag.toNat ++ f.body

/-- R187: the bytes of a frame, its sync byte first and its check last. -/
def HostFrame.bytes (f : HostFrame) : List Byte := syncByte :: f.fields ++ twoBytes (crc16 f.fields).toNat

/-- R187: the tag of a frame that the part sends: a reply's is its request's, a host report's is the one it carries. -/
def OutFrame.tag : OutFrame → FrameTag
  | .reply r => r.tag
  | .report t _ => t

/-- R189: the kind byte of a request, which its reply carries too: the number of its kind, or the byte that names no request. -/
def ReplyKind.number : ReplyKind → Byte
  | .request k => Config.requestNumber k
  | .other b => b

/-- The kind of a report (section 11.4). -/
def Report.kind : Report → ReportKind
  | .jobEnded _ => .jobEnded
  | .loadMoved _ => .loadMoved
  | .runEnded _ _ _ _ _ _ => .runEnded
  | .loadArrived _ _ _ => .loadArrived
  | .groupEnded _ _ => .groupEnded
  | .stationFault _ _ => .stationFault
  | .craneState _ => .craneState
  | .aisleState _ _ _ => .aisleState
  | .scheduleAdopted _ => .scheduleAdopted
  | .reportsLost _ => .reportsLost

/-- The kind byte of a frame that the part sends: a reply's is its request's (R189), a host report's is that of its kind. -/
def OutFrame.kindByte : OutFrame → Byte
  | .reply r => r.kind.number
  | .report _ r => Config.reportNumber r.kind

/-- R187: a frame that the part sends, as a host link frame. The spec gives no numbers to the kinds of requests and reports and
no layout to the body of a reply or a report: these are free values (log entry 29). -/
def OutFrame.frame (x : OutFrame) : HostFrame := { kind := x.kindByte, tag := x.tag, body := Config.sentBody x }

/-- R187: the bytes of a frame that the part sends; the check is computed in the same way as that of a received frame. -/
def OutFrame.bytes (x : OutFrame) : List Byte := x.frame.bytes

/-- R188: whether the input buffer has room. -/
def Hli.room (h : Hli) : Bool := decide (h.input.length < Config.inputFrames)

/-- R188: a received frame is appended to the input buffer. -/
def Hli.accept (h : Hli) (f : HostFrame) : Hli := { h with input := h.input ++ [.read f] }

/-- R187, R188: the bytes read are searched for frames. A received frame is appended to the input buffer, or discarded while
that holds 4; after every discard, that one among them (log entry 41), the search goes on with the byte behind the sync
byte. Each round uses at least one byte, so the number of bytes is fuel enough. -/
def Hli.scan : Nat → Hli → List Byte → Hli
  | 0, h, bs => { h with rx := bs }
  | fuel + 1, h, bs =>
    match bs with
    | [] => { h with rx := [] }
    | b :: rest =>
      if b = syncByte then
        match readFrame rest with
        | .wait => { h with rx := bs }
        | .discard => Hli.scan fuel h rest
        | .frame f more => if h.room then Hli.scan fuel (h.accept f) more else Hli.scan fuel h rest
      else Hli.scan fuel h rest

/-- R187, R188: bytes arrive on the host link. -/
def Hli.receive (h : Hli) (bytes : List Byte) : Hli :=
  let bs := h.rx ++ bytes
  Hli.scan (bs.length + 1) h bs

/-- HOST_FRAME_RECEIVED (R187, R188). -/
def execHostFrameReceived (bytes : List Byte) (s : State) : Host.Outcome State Fault Refusal :=
  .next { s with hli := s.hli.receive bytes }

/-! ## IDENTIFY and RESTART -/

/-- R193: the part code, the revision and the capacities. -/
def identity : Identity :=
  { partCode := Config.partCode, revision := Config.revision, aisles := 8, cranes := 16, jobs := Config.maxJobs,
    queues := 16, runs := Config.maxRuns, groups := Config.maxGroups, positions := Config.maxPositions,
    locationsPerAisle := Config.locationsPerAisle, inputBuffer := Config.inputFrames,
    replyQueue := Config.replyEntries, reportQueue := Config.reportEntries, hostBody := Config.hostBody,
    lineBody := Config.lineBody }

/-- A body that must be empty, and is MALFORMED otherwise (R193, R194). -/
def emptyBody (b : List Byte) : Except Result Unit := if b = [] then .ok () else .error .malformed

/-- IDENTIFY (R193): the work and the answer. -/
def onIdentify (body : List Byte) (s : State) : Work × Answer :=
  checked s (emptyBody body) (fun _ => answered s (.identity identity))

/-- R57, column "RESTART": role and stop answer deadline are kept. -/
def Crane.afterRestart (x : Crane) : Crane := { Crane.reset with role := x.role, stopDeadline := x.stopDeadline }

/-- R171, R120, column "RESTART": profile, ceiling and both schedule copies are kept. -/
def Aisle.afterRestart (x : Aisle) : Aisle :=
  { Aisle.reset with profile := x.profile, ceiling := x.ceiling, active := x.active, pendingCopy := x.pendingCopy }

/-- R170, column "RESTART". -/
def Stu.afterRestart (x : Stu) : Stu := { Stu.reset with linkUp := x.linkUp }

/-- R194, step 7: the report queue is emptied, the lost-report count is 0, the pause is dropped. The input buffer and the reply
queue are kept, and so are the bytes of a frame that is not yet complete, of which the spec says nothing (log entry
32). -/
def Hli.afterRestart (h : Hli) : Hli := { h with reports := [], lost := 0, pause := false }

/-- R194, steps 2 to 7. -/
def State.afterRestart (s : State) : State :=
  { s with
    ltb := s.ltb.afterRestart
    jtb := .reset
    rnu := .reset
    stu := s.stu.afterRestart
    groups := []
    aisles := allAisles.foldl (fun v (a : AisleNo) => v.set a (s.aisle a).afterRestart) s.aisles
    cranes := allCranes.foldl (fun v (c : CraneNo) => v.set c (s.crane c).afterRestart) s.cranes
    claims := Vector.replicate 16 none
    proving := Vector.replicate 16 .reset
    hli := s.hli.afterRestart }

/-- R194, step 1: STOP to every crane whose role is not ABSENT. -/
def Work.stopAll (w : Work) : Work := (allCranes.filter w.st.present).foldl (fun w c => w.sendStop c) w

/-- R194, steps 1 to 8. -/
def restartBody (s : State) : Work :=
  (Work.start ((Work.start s).stopAll.st.afterRestart)).stationOrder .resync

/-- RESTART (R194): the work and the answer. -/
def onRestart (body : List Byte) (s : State) : Work × Answer :=
  checked s (emptyBody body) (fun _ => done (restartBody s))

end Sys2Proof.Machine
end

