-- ==== Sys2Proof/Machine/JobRequests.lean ====
section
/-! DEFINITION. The job requests: SUBMIT_JOB (R22, R23), SET_URGENCY (R31), CANCEL_JOB (R35–R39), QUERY_JOB (R42). -/

namespace Sys2Proof.Machine

/-- SUBMIT_JOB (R22, R23): the work and the answer. -/
def onSubmitJob (body : List Byte) (s : State) : Work × Answer :=
  checked s (s.checkJob body) (fun x => done ((Work.start s).admitJob x.1 x.2))

/-- R31: an urgency is written into a job in WAITING or READY: the ready-since time of a READY job is restarted, and the
readiness notice is given when its urgency changed. -/
def Work.writeUrgency (w : Work) (id : JobId) (u : Nat) : Work :=
  match w.st.job? id with
  | none => w
  | some j =>
    if j.state = .ready then
      let w := w.mapJob id (fun x => { x with urgency := u, readySince := some w.st.now })
      if j.urgency ≠ u then w.noticeReady id j.aisle else w
    else if j.state = .waiting then w.mapJob id (fun x => { x with urgency := u })
    else w

/-- R31: the checks; the job, and the clamped urgency. -/
def State.checkUrgency (s : State) (req : Option UrgencyReq) : Except Result (JobId × Nat) := do
  let r ← needed req
  let j ← s.hostJob r.id
  if j.state.unstarted then .ok (j.id, clampUrgency r.urgency) else .error .wrongState

/-- R31: the urgency of a job and of its clearance job. -/
def Work.setUrgency (w : Work) (id : JobId) (u : Nat) : Work :=
  let w := w.writeUrgency id u
  match w.st.clearanceOf id with
  | some k => w.writeUrgency k.id u
  | none => w

/-- SET_URGENCY (R31): the work and the answer. -/
def onSetUrgency (req : Option UrgencyReq) (s : State) : Work × Answer :=
  checked s (s.checkUrgency req) (fun x => done ((Work.start s).setUrgency x.1 x.2))

/-- R35: a cancel of a job in LEAD, by its crane. -/
def cancelLead (s : State) (j : Job) (c : CraneNo) : Work × Answer :=
  if (s.crane c).state = .hold then ((Work.start s).cancelHold j.id c .host, { result := .cancelled })
  else if (s.crane c).order = .none then ((Work.start s).startAbort j.id c .host, { result := .pending })
  else refuse s .busy

/-- R35, R38: a cancel of a job in FETCH. R35's table answers TOO-LATE; R38 (with section 2.6, and BUSY in section 11.7) refuses a
cancel BUSY while the ABORT is outstanding, as it is between AT-SOURCE and ABORT-LATE. The model follows R38 there
(log entry 42). -/
def cancelFetch (s : State) (j : Job) : Work × Answer :=
  match j.crane with
  | some c => if (s.crane c).order = .abort then refuse s .busy else refuse s .tooLate
  | none => refuse s .tooLate

/-- R35: what a cancel does, by the job's state. -/
def cancelBody (s : State) (j : Job) : Work × Answer :=
  match j.state with
  | .waiting => ((Work.start s).cancelUnstarted j.id .host, { result := .cancelled })
  | .ready => ((Work.start s).cancelUnstarted j.id .host, { result := .cancelled })
  | .promised => refuse s .busy
  | .lead =>
    match j.crane with
    | some c => cancelLead s j c
    | none => refuse s .busy
  | .fetch => cancelFetch s j
  | .haul => refuse s .tooLate
  | .place => refuse s .tooLate
  | .stranded _ => ((Work.start s).cancelStranded j, { result := .cancelled })
  | .ended => refuse s .noSuchId

/-- CANCEL_JOB (R35): the work and the answer. -/
def onCancelJob (id : Option Nat) (s : State) : Work × Answer :=
  checked s (do s.hostJob (← needed id)) (cancelBody s)

/-- R42: a job's place counted from the head of its queue; the head is 1 (log entry 20). -/
def State.queuePlace (s : State) (j : Job) : Nat := (s.jtb.queues[j.queue].takeWhile (fun i => i != j.id)).length + 1

/-- QUERY_JOB (R42): the work and the answer. -/
def onQueryJob (id : Option Nat) (s : State) : Work × Answer :=
  checked s (do s.anyJob (← needed id)) (fun j => answered s (.job j (s.queuePlace j)))

end Sys2Proof.Machine
end

