-- ==== Sys2Proof/Machine/LocationRequests.lean ====
section
/-! DEFINITION. The location requests: LOAD_LOCATIONS (R16), SET_LOCATION (R17), LOCK_LOCATION and UNLOCK_LOCATION (R18),
QUERY_LOCATION (R193). -/

namespace Sys2Proof.Machine

/-- R16, R17: whether a host write of a location is forbidden: it has a holder, or it is a NEAR location whose FAR is
INBOUND, or OUTBOUND under a job that is past READY. -/
def State.writeConflict (s : State) (l : Loc) : Bool :=
  (s.loc l).occ.holder.isSome ||
    (l.depth = .near &&
      match (s.loc l.partner).occ with
      | .inbound _ _ => true
      | .outbound _ h => (s.job? h).any (fun j => !j.state.unstarted)
      | _ => false)

/-- Whether a location is FULL. -/
def Occ.isFull : Occ → Bool
  | .full _ => true
  | _ => false

/-- R14, R15, R131: what follows a host write of a location; `was` is the record before it. A FAR location that was FULL
before does not become FULL, and gives no notice of R131. -/
def Work.hostWrote (w : Work) (l : Loc) (was : LocRec) : Work :=
  let r := w.st.loc l
  let w := if l.depth = .near ∧ r.occ.holder = none then w.retestFar l else w
  let w := if r.occ = .empty ∧ was.occ ≠ .empty then w.noticeAvail l.aisle else w
  if w.st.freesNear l ∧ was.occ.isFull = false then w.noticeAvail l.aisle else w

/-! ## LOAD_LOCATIONS -/

/-- R16: an occupancy an entry may carry. -/
def loadOcc (o : Option OccName) (tag : Tag) : Option Occ :=
  match o with
  | some .empty => some .empty
  | some .full => some (.full tag)
  | _ => none

/-- R16, checks 2 to 4 for one entry: aisle and occupancy, profile, address. -/
def State.checkEntry (s : State) (e : LoadEntry) : Except Result (Loc × LocRec) :=
  match aisleNo? e.loc.aisle, loadOcc e.occ e.tag with
  | some _, some o => (s.checkLoc e.loc).map (fun l => (l, { occ := o, locked := e.locked }))
  | _, _ => .error .outOfRange

/-- The position of a check of R16 that a refusal comes from: 2 aisle or occupancy, 3 profile, 4 address. -/
def State.entryRank (s : State) (e : LoadEntry) : Nat :=
  match aisleNo? e.loc.aisle, loadOcc e.occ e.tag with
  | some a, some _ =>
    if (s.aisle a).profile = none then 3
    else match s.checkLoc e.loc with
      | .error _ => 4
      | .ok _ => 5
  | _, _ => 2

/-- R16: the checks in their order over the whole request; the records to write. -/
def State.checkLoad (s : State) (r : LoadReq) : Except Result (List (Loc × LocRec)) := do
  if r.count = 0 ∨ 64 < r.count ∨ r.entries.length ≠ r.count then .error .malformed
  else if r.entries.any (fun e => s.entryRank e == 2) then .error .outOfRange
  else if r.entries.any (fun e => s.entryRank e == 3) then .error .noProfile
  else
    let xs ← r.entries.mapM s.checkEntry
    if xs.any (fun x => (s.aisle x.1.aisle).state ≠ .closed) then .error .wrongState
    else if xs.any (fun x => s.writeConflict x.1) then .error .locationConflict
    else .ok xs

/-- R16: the entries are applied in message order, and then what follows each is done, in message order. -/
def Work.loadLocations (w : Work) (xs : List (Loc × LocRec)) : Work :=
  let olds := xs.map (fun x => (x.1, w.st.loc x.1))
  let w := w.onState (fun s => xs.foldl (fun s x => s.setLoc x.1 x.2) s)
  olds.foldl (fun w x => w.hostWrote x.1 x.2) w

/-- LOAD_LOCATIONS (R16): the work and the answer. -/
def onLoadLocations (req : LoadReq) (s : State) : Work × Answer :=
  checked s (s.checkLoad req) (fun xs => done ((Work.start s).loadLocations xs))

/-! ## SET_LOCATION -/

/-- R17: an occupancy SET-LOCATION may carry. -/
def setOccOf (o : Option OccName) (tag : Tag) : Option Occ :=
  match o with
  | some .empty => some .empty
  | some .full => some (.full tag)
  | some .unknown => some .unknown
  | _ => none

/-- R17: the checks in their order; the location and the occupancy to write. -/
def State.checkSet (s : State) (req : Option SetLocReq) : Except Result (Loc × Occ) := do
  let r ← needed req
  match aisleNo? r.loc.aisle, setOccOf r.occ r.tag with
  | some _, some o => do
    let l ← s.checkLoc r.loc
    if !(s.loc l).locked || s.writeConflict l then .error .locationConflict else .ok (l, o)
  | _, _ => .error .outOfRange

/-- R17: the occupancy is written; the location stays locked. -/
def Work.setLocation (w : Work) (l : Loc) (o : Occ) : Work :=
  let was := w.st.loc l
  (w.onState (fun s => s.setLoc l { s.loc l with occ := o })).hostWrote l was

/-- SET_LOCATION (R17): the work and the answer. -/
def onSetLocation (req : Option SetLocReq) (s : State) : Work × Answer :=
  checked s (s.checkSet req) (fun x => done ((Work.start s).setLocation x.1 x.2))

/-! ## Locks -/

/-- R18: the locked flag is written; a change of the flag of a NEAR location without holder causes the re-test of
R14. -/
def Work.writeLock (w : Work) (l : Loc) (b : Bool) : Work :=
  let was := w.st.loc l
  let w := w.onState (fun s => s.setLoc l { s.loc l with locked := b })
  if was.locked ≠ b ∧ l.depth = .near ∧ was.occ.holder = none then w.retestFar l else w

/-- R15, R131: the notices of an UNLOCK-LOCATION. -/
def Work.unlockNotices (w : Work) (l : Loc) (was : LocRec) : Work :=
  if was.occ = .empty ∨ (was.locked = true ∧ w.st.freesNear l = true) then w.noticeAvail l.aisle else w

/-- The address of a lock request (R18). -/
def State.checkLock (s : State) (l : Option RawLoc) : Except Result Loc := do s.checkLoc (← needed l)

/-- LOCK_LOCATION (R18): the work and the answer. -/
def onLockLocation (loc : Option RawLoc) (s : State) : Work × Answer :=
  checked s (s.checkLock loc) (fun l => done ((Work.start s).writeLock l true))

/-- UNLOCK_LOCATION (R18): the work and the answer. -/
def onUnlockLocation (loc : Option RawLoc) (s : State) : Work × Answer :=
  checked s (s.checkLock loc) (fun l => done (((Work.start s).writeLock l false).unlockNotices l (s.loc l)))

/-! ## QUERY_LOCATION -/

/-- R193: the location after a location: NEAR before FAR, then by level, by bay, LEFT before RIGHT. -/
def Loc.after (p : Profile) (l : Loc) : Option Loc :=
  if p.doubleDeep ∧ l.depth = .near then some { l with depth := .far }
  else if l.level < p.levels then some { l with level := l.level + 1, depth := .near }
  else if l.bay < p.bays then some { l with bay := l.bay + 1, level := 1, depth := .near }
  else
    match l.side with
    | .left => some { l with side := .right, bay := 1, level := 1, depth := .near }
    | .right => none

/-- R193: at most `n` locations from a location on. -/
def locsFrom (p : Profile) : Nat → Option Loc → List Loc
  | 0, _ => []
  | _, none => []
  | n + 1, some l => l :: locsFrom p n (l.after p)

/-- R193: the checks of QUERY-LOCATION in their order; the first address and the count. -/
def State.checkQueryLoc (s : State) (req : Option QueryLocReq) : Except Result (Loc × Nat) := do
  let r ← needed req
  if r.count = 0 ∨ 64 < r.count then .error .outOfRange
  else
    let l ← s.checkLoc r.first
    .ok (l, r.count)

/-- QUERY_LOCATION (R193): the work and the answer. -/
def onQueryLocation (req : Option QueryLocReq) (s : State) : Work × Answer :=
  checked s (s.checkQueryLoc req) (fun x =>
    answered s (.locations ((locsFrom (s.prof x.1.aisle) x.2 (some x.1)).map (fun l => (l, s.loc l)))))

end Sys2Proof.Machine
end

