-- ==== Sys2Proof/Machine/RunRequests.lean ====
section
/-! DEFINITION. The run requests and the record-free notice: SUBMIT_RUN (R137, R138), END_RUN (R145), QUERY_RUN (R148),
RECORD_FREE_NOTICE (R142). -/

namespace Sys2Proof.Machine

/-- R138: the positions from `k` on, `n` of them, become SPAWN-PENDING for a run. -/
def markPending (run : RunId) (k n : Nat) (g : Group) : Group :=
  (List.range n).foldl (fun g i => g.setPosition (k + i) (.spawnPending run)) g

/-- R138: a run is admitted, and makes its first spawn attempt. A window is at most 4, so 8 attempts are enough. -/
def Work.admitRun (w : Work) (r : Run) : Work :=
  let w := w.onState (fun s => { s with rnu := { s.rnu with runs := s.rnu.runs ++ [r] } })
  let w := match r.group with
    | some g => (w.onState (fun s => s.mapGroup g.id (markPending r.id g.next r.count))).groupChanged g.id
    | none => w
  Work.fillRun 8 w r.id

/-- SUBMIT_RUN (R137, R138): the work and the answer. -/
def onSubmitRun (body : List Byte) (s : State) : Work × Answer :=
  checked s (s.checkRun body) (fun r => done ((Work.start s).admitRun r))

/-- A job inserted into a list kept with the oldest stamp first. -/
def insertStamp (x : Job) : List Job → List Job
  | [] => [x]
  | y :: ys => if older x.stamp y.stamp then x :: y :: ys else y :: insertStamp x ys

/-- Jobs with the oldest submit stamp first (R145, R148, R163). -/
def byStamp (js : List Job) : List Job := js.foldl (fun acc x => insertStamp x acc) []

/-- The live children of a run, oldest stamp first (R145, R148). -/
def State.childrenOf (s : State) (id : RunId) : List Job := byStamp (s.jtb.jobs.filter (fun j => j.run == some id))

/-- R145: one child is withdrawn, by its state; the number counts those withdrawn. -/
def withdrawChild (x : Work × Nat) (id : JobId) : Work × Nat :=
  match x.1.st.job? id with
  | none => x
  | some j =>
    match j.state with
    | .waiting => (x.1.cancelUnstarted id .host, x.2 + 1)
    | .ready => (x.1.cancelUnstarted id .host, x.2 + 1)
    | .stranded _ => (x.1.cancelStranded j, x.2 + 1)
    | _ => x

/-- R145: END-RUN carried out: the stop, the withdrawals, and the two counts. -/
def endRunBody (s : State) (r : Run) (withdraw : Bool) : Work × Answer :=
  let w := { (Work.start s).stopRun r.id .request with deferRuns := true }
  let x := if withdraw then ((s.childrenOf r.id).map Job.id).foldl withdrawChild (w, 0) else (w, 0)
  (x.1, { result := .done, data := .counts x.2 (x.1.st.childrenOf r.id).length })

/-- R145: the checks. -/
def State.checkEndRun (s : State) (req : Option EndRunReq) : Except Result (Run × Bool) := do
  let q ← needed req
  let r ← s.liveRun q.id
  .ok (r, q.withdraw)

/-- END_RUN (R145): the work and the answer. -/
def onEndRun (req : Option EndRunReq) (s : State) : Work × Answer :=
  checked s (s.checkEndRun req) (fun x => endRunBody s x.1 x.2)

/-- QUERY_RUN (R148): the work and the answer. -/
def onQueryRun (id : Option Nat) (s : State) : Work × Answer :=
  checked s (do s.liveRun (← needed id)) (fun r => answered s (.run r ((s.childrenOf r.id).map Job.id)))

/-- RECORD_FREE_NOTICE (R142): a notice that was given is taken; without one nothing is changed (log entry 8). -/
def execRecordFreeNotice (s : State) : Host.Outcome State Fault Refusal :=
  if s.jtb.freeNotices = 0 then .next s
  else
    .next ((Work.start { s with jtb := { s.jtb with freeNotices := s.jtb.freeNotices - 1 } }).spawnAll).finish

end Sys2Proof.Machine
end

