-- ==== Sys2Proof/Machine/StationRequests.lean ====
section
/-! DEFINITION. The station and group requests: QUERY_STATION (R168), OPEN_GROUP (R158), GROUP_CANCEL (R163), QUERY_GROUP
(R169). -/

namespace Sys2Proof.Machine

/-- R168: what QUERY-STATION answers. -/
def State.stationAnswer (s : State) (a : AisleNo) : StationAnswer :=
  let x := s.station a
  { infeed := x.infeed, claimant := s.claimant a, outfeed := x.outfeed, reserved := x.reserved,
    releasing := x.releasing, collector := s.stu.collector, rotation := s.stu.rotation,
    capacities := (s.aisle a).profile.map (fun p => (p.infeedCap, p.outfeedCap)) }

/-- QUERY_STATION (R168): the work and the answer. -/
def onQueryStation (aisle : Option Nat) (s : State) : Work × Answer :=
  checked s (aisleField aisle) (fun a => answered s (.station (s.stationAnswer a)))

/-- R158: a window is clamped to 1–16. -/
def clampGroupWindow (n : Nat) : Nat := max 1 (min n 16)

/-- R158: the record OPEN-GROUP appends. -/
def newGroup (r : GroupReq) : Group :=
  { id := r.id, count := r.count, window := clampGroupWindow r.window, next := 1,
    positions := List.replicate r.count .free }

/-- R158: the checks in their order. -/
def State.checkOpenGroup (s : State) (req : Option GroupReq) : Except Result Group := do
  let r ← needed req
  if r.id = 0 ∨ r.count = 0 ∨ Config.maxPositions < r.count then .error .outOfRange
  else if (s.group? r.id).isSome then .error .duplicateId
  else if Config.maxGroups ≤ s.groups.length then .error .tableFull
  else .ok (newGroup r)

/-- OPEN_GROUP (R158). A new ACTIVE group changes the identity of the ACTIVE group, so the collector arbiter decides
(R165). -/
def onOpenGroup (req : Option GroupReq) (s : State) : Work × Answer :=
  checked s (s.checkOpenGroup req) (fun g =>
    done ((Work.start { s with groups := s.groups ++ [g] }).askRelease))

/-- R163: the members of a group, oldest stamp first. -/
def State.membersOf (s : State) (gid : GroupId) : List Job :=
  byStamp (s.jtb.jobs.filter (fun j => (j.group.map Prod.fst) == some gid))

/-- R163, step 1: a member in WAITING or READY ends CANCELLED. -/
def cancelMember (w : Work) (id : JobId) : Work :=
  match w.st.job? id with
  | some j => if j.state.unstarted then w.cancelUnstarted id .groupCancelled else w
  | none => w

/-- R163, steps 2 to 4: jobs in flight, loads and runs lose the group. -/
def State.unlinkGroup (s : State) (gid : GroupId) : State :=
  let s := { s with
    jtb := { s.jtb with
      jobs := s.jtb.jobs.map (fun j => if (j.group.map Prod.fst) == some gid then { j with group := none } else j) }
    rnu := { s.rnu with
      runs := s.rnu.runs.map (fun r => if r.group.any (fun g => g.id == gid) then { r with group := none } else r) } }
  allAisles.foldl (fun s a => s.mapStation a (fun x =>
    { x with outfeed := x.outfeed.map (fun l =>
        if (l.member.map Prod.fst) == some gid then { l with member := none } else l) })) s

/-- R163: a group is cancelled. -/
def Work.cancelGroup (w : Work) (gid : GroupId) : Work :=
  let w := ((w.st.membersOf gid).map Job.id).foldl cancelMember w
  let w := (w.onState (fun s => s.unlinkGroup gid)).removeGroup gid
  (w.report (.groupEnded gid .cancelled)).askRelease

/-- GROUP_CANCEL (R163): the work and the answer. -/
def onGroupCancel (id : Option Nat) (s : State) : Work × Answer :=
  checked s (do s.existingGroup (← needed id)) (fun g => done ((Work.start s).cancelGroup g.id))

/-- R169: a group's place in the opening order; the first is 1 (log entry 20). -/
def State.groupPlace (s : State) (gid : GroupId) : Nat := (s.groups.takeWhile (fun g => g.id != gid)).length + 1

/-- QUERY_GROUP (R169): the work and the answer. -/
def onQueryGroup (id : Option Nat) (s : State) : Work × Answer :=
  checked s (do s.existingGroup (← needed id)) (fun g =>
    answered s (.group g (s.groupPlace g.id) (s.isActive g.id)))

end Sys2Proof.Machine
end

