-- ==== Sys2Proof/Machine/Requests.lean ====
section
/-! DEFINITION. The taking of requests (R189): which requests stand in the input buffer, which one is taken, and its handing to its
owner; the commands that are requests, UNKNOWN_KIND among them; and FRAME_TRANSMISSION_END (R190), after which a request that
waited for a place in the reply queue is taken. -/

namespace Sys2Proof.Machine

/-! ## Requests and their owners -/

/-- The reply kind and the tag of a command that is a request. -/
def requestOf : Instr → Option (ReplyKind × FrameTag)
  | .unknownKind k t => some (.other k, t)
  | .submitJob t _ => some (.request .submitJob, t)
  | .setUrgency t _ => some (.request .setUrgency, t)
  | .cancelJob t _ => some (.request .cancelJob, t)
  | .queryJob t _ => some (.request .queryJob, t)
  | .submitRun t _ => some (.request .submitRun, t)
  | .endRun t _ => some (.request .endRun, t)
  | .queryRun t _ => some (.request .queryRun, t)
  | .loadLocations t _ => some (.request .loadLocations, t)
  | .setLocation t _ => some (.request .setLocation, t)
  | .lockLocation t _ => some (.request .lockLocation, t)
  | .unlockLocation t _ => some (.request .unlockLocation, t)
  | .queryLocation t _ => some (.request .queryLocation, t)
  | .setProfile t _ => some (.request .setProfile, t)
  | .openAisle t _ => some (.request .openAisle, t)
  | .closeAisle t _ => some (.request .closeAisle, t)
  | .lockoutAisle t _ => some (.request .lockoutAisle, t)
  | .releaseAisle t _ => some (.request .releaseAisle, t)
  | .setCeiling t _ => some (.request .setCeiling, t)
  | .editSchedule t _ => some (.request .editSchedule, t)
  | .commitSchedule t _ => some (.request .commitSchedule, t)
  | .queryAisle t _ => some (.request .queryAisle, t)
  | .clearCrane t _ => some (.request .clearCrane, t)
  | .queryCrane t _ => some (.request .queryCrane, t)
  | .queryStation t _ => some (.request .queryStation, t)
  | .openGroup t _ => some (.request .openGroup, t)
  | .groupCancel t _ => some (.request .groupCancel, t)
  | .queryGroup t _ => some (.request .queryGroup, t)
  | .identify t _ => some (.request .identify, t)
  | .restart t _ => some (.request .restart, t)
  | .hardwareReset => none
  | .stationLinkUp => none
  | .hostFrameReceived _ => none
  | .frameTransmissionEnd => none
  | .atSource _ => none
  | .fetchedOk _ _ => none
  | .fetchedEmpty _ => none
  | .atDestination _ => none
  | .placedOk _ => none
  | .placedOccupied _ => none
  | .moved _ => none
  | .referenced _ _ _ _ => none
  | .stopped _ => none
  | .redirectTaken _ => none
  | .redirectLate _ => none
  | .abortTaken _ _ _ => none
  | .abortLate _ => none
  | .echo _ _ _ => none
  | .craneFault _ _ => none
  | .misfitReport _ => none
  | .craneFrameDiscarded _ _ => none
  | .motionDeadlineExpiry _ => none
  | .stopAnswerTimeout _ => none
  | .echoDeadlineExpiry _ => none
  | .agingExpiry _ => none
  | .parkExpiry _ => none
  | .loadArrived _ _ _ => none
  | .loadDeparted _ => none
  | .collectorReady => none
  | .stationFrameDiscarded _ => none
  | .recordFreeNotice => none

/-- R189: a taken request is handed to its owner; of any other kind, it is refused UNKNOWN-KIND, and no owner sees it. -/
def State.hand (s : State) : Instr → Work × Answer
  | .submitJob _ body => onSubmitJob body s
  | .setUrgency _ req => onSetUrgency req s
  | .cancelJob _ id => onCancelJob id s
  | .queryJob _ id => onQueryJob id s
  | .submitRun _ body => onSubmitRun body s
  | .endRun _ req => onEndRun req s
  | .queryRun _ id => onQueryRun id s
  | .loadLocations _ req => onLoadLocations req s
  | .setLocation _ req => onSetLocation req s
  | .lockLocation _ loc => onLockLocation loc s
  | .unlockLocation _ loc => onUnlockLocation loc s
  | .queryLocation _ req => onQueryLocation req s
  | .setProfile _ req => onSetProfile req s
  | .openAisle _ aisle => onOpenAisle aisle s
  | .closeAisle _ aisle => onCloseAisle aisle s
  | .lockoutAisle _ aisle => onLockoutAisle aisle s
  | .releaseAisle _ aisle => onReleaseAisle aisle s
  | .setCeiling _ req => onSetCeiling req s
  | .editSchedule _ req => onEditSchedule req s
  | .commitSchedule _ aisle => onCommitSchedule aisle s
  | .queryAisle _ aisle => onQueryAisle aisle s
  | .clearCrane _ crane => onClearCrane crane s
  | .queryCrane _ crane => onQueryCrane crane s
  | .queryStation _ aisle => onQueryStation aisle s
  | .openGroup _ req => onOpenGroup req s
  | .groupCancel _ id => onGroupCancel id s
  | .queryGroup _ id => onQueryGroup id s
  | .identify _ body => onIdentify body s
  | .restart _ body => onRestart body s
  | _ => refuse s .unknownKind

/-- R189: one request, already removed from the buffer, is carried out whole as one event, and answered by one reply. -/
def State.carryOut (s : State) (c : Instr) : State :=
  match requestOf c with
  | some (k, tag) => answerWith (s.hand c) k tag
  | none => s

/-! ## The input buffer -/

/-- The state with its input buffer replaced. -/
def State.withInput (s : State) (xs : List InEntry) : State := { s with hli := { s.hli with input := xs } }

/-- Whether the bytes of a frame may be those of a request: the tag and the kind byte are the request's; so is the body where the
request carries its bytes (log entry 6). -/
def HostFrame.asks (f : HostFrame) (c : Instr) : Bool :=
  match requestOf c with
  | none => false
  | some (k, tag) => f.tag == tag && f.kind == k.number &&
    match c with
    | .submitJob _ b => b == f.body
    | .submitRun _ b => b == f.body
    | .identify _ b => b == f.body
    | .restart _ b => b == f.body
    | _ => true

/-- Whether an entry is a frame, not yet known as a request, that may ask for a request. -/
def InEntry.asks (x : InEntry) (c : Instr) : Bool :=
  match x with
  | .read f => f.asks c
  | .request _ => false

/-- The oldest frame that may ask for a request becomes known as that request. -/
def nameFrame (c : Instr) : List InEntry → List InEntry
  | [] => []
  | x :: rest => if x.asks c then .request c :: rest else x :: nameFrame c rest

/-- R188: a request reaches the input buffer: by the frame that asks for it, when its bytes have been read, and as a frame of its
own otherwise, which is discarded while the buffer holds 4 (log entry 6). -/
def enterBuffer (c : Instr) (xs : List InEntry) : List InEntry :=
  if xs.any (InEntry.asks · c) then nameFrame c xs
  else if xs.length < Config.inputFrames then xs ++ [.request c]
  else xs

/-! ## The taking -/

/-- R189: whether the head of the input buffer is taken: the reply queue has a free place, and the head's request is known. -/
def State.takes (s : State) : Option (Instr × List InEntry) :=
  match s.hli.input with
  | .request c :: rest => if s.hli.replies.length < Config.replyEntries then some (c, rest) else none
  | _ => none

/-- R189: the requests are taken one after another, in arrival order, each as one event. A round takes an entry from the
buffer, so the number of entries is fuel enough. -/
def State.serve : Nat → State → State
  | 0, s => s
  | fuel + 1, s =>
    match s.takes with
    | some (c, rest) => State.serve fuel ((s.withInput rest).carryOut c)
    | none => s

/-- R189: every request that may be taken is taken. -/
def State.serveAll (s : State) : State := s.serve s.hli.input.length

/-- R188, R189: a request reaches the buffer, and every request that may be taken is taken. -/
def State.receiveRequest (s : State) (c : Instr) : State := (s.withInput (enterBuffer c s.hli.input)).serveAll

/-- R189: whether a request that arrives is taken at once: the reply queue has a free place, and no frame stands before it. -/
def State.mayTakeRequest (s : State) : Bool := decide (s.hli.replies.length < Config.replyEntries) && s.hli.input.isEmpty

/-! ## The commands -/

/-- R190: the line is free, and the arbiter starts the next frame. -/
def State.endTransmission (s : State) : State := (Work.start { s with hli := { s.hli with line := none } }).feed.st

/-- FRAME_TRANSMISSION_END (R190): the line is free, and the arbiter starts the next frame; a request that waited for the place
of a reply that leaves is then taken (R189). With an idle line nothing is changed. -/
def execFrameTransmissionEnd (s : State) : Host.Outcome State Fault Refusal :=
  match s.hli.line with
  | none => .next s
  | some _ => .next s.endTransmission.serveAll

/-- UNKNOWN_KIND (R189): the taken frame is refused UNKNOWN-KIND. -/
def execUnknownKind (kind : Byte) (tag : FrameTag) (s : State) : Host.Outcome State Fault Refusal :=
  .next (s.receiveRequest (.unknownKind kind tag))

/-- SUBMIT_JOB (R22, R23). -/
def execSubmitJob (tag : FrameTag) (body : List Byte) (s : State) : Host.Outcome State Fault Refusal :=
  .next (s.receiveRequest (.submitJob tag body))

/-- SET_URGENCY (R31). -/
def execSetUrgency (tag : FrameTag) (req : Option UrgencyReq) (s : State) : Host.Outcome State Fault Refusal :=
  .next (s.receiveRequest (.setUrgency tag req))

/-- CANCEL_JOB (R35). -/
def execCancelJob (tag : FrameTag) (id : Option Nat) (s : State) : Host.Outcome State Fault Refusal :=
  .next (s.receiveRequest (.cancelJob tag id))

/-- QUERY_JOB (R42). -/
def execQueryJob (tag : FrameTag) (id : Option Nat) (s : State) : Host.Outcome State Fault Refusal :=
  .next (s.receiveRequest (.queryJob tag id))

/-- SUBMIT_RUN (R137, R138). -/
def execSubmitRun (tag : FrameTag) (body : List Byte) (s : State) : Host.Outcome State Fault Refusal :=
  .next (s.receiveRequest (.submitRun tag body))

/-- END_RUN (R145). -/
def execEndRun (tag : FrameTag) (req : Option EndRunReq) (s : State) : Host.Outcome State Fault Refusal :=
  .next (s.receiveRequest (.endRun tag req))

/-- QUERY_RUN (R148). -/
def execQueryRun (tag : FrameTag) (id : Option Nat) (s : State) : Host.Outcome State Fault Refusal :=
  .next (s.receiveRequest (.queryRun tag id))

/-- LOAD_LOCATIONS (R16). -/
def execLoadLocations (tag : FrameTag) (req : LoadReq) (s : State) : Host.Outcome State Fault Refusal :=
  .next (s.receiveRequest (.loadLocations tag req))

/-- SET_LOCATION (R17). -/
def execSetLocation (tag : FrameTag) (req : Option SetLocReq) (s : State) : Host.Outcome State Fault Refusal :=
  .next (s.receiveRequest (.setLocation tag req))

/-- LOCK_LOCATION (R18). -/
def execLockLocation (tag : FrameTag) (loc : Option RawLoc) (s : State) : Host.Outcome State Fault Refusal :=
  .next (s.receiveRequest (.lockLocation tag loc))

/-- UNLOCK_LOCATION (R18). -/
def execUnlockLocation (tag : FrameTag) (loc : Option RawLoc) (s : State) : Host.Outcome State Fault Refusal :=
  .next (s.receiveRequest (.unlockLocation tag loc))

/-- QUERY_LOCATION (R193). -/
def execQueryLocation (tag : FrameTag) (req : Option QueryLocReq) (s : State) : Host.Outcome State Fault Refusal :=
  .next (s.receiveRequest (.queryLocation tag req))

/-- SET_PROFILE (R172, R173). -/
def execSetProfile (tag : FrameTag) (req : Option ProfileReq) (s : State) : Host.Outcome State Fault Refusal :=
  .next (s.receiveRequest (.setProfile tag req))

/-- OPEN_AISLE (R174). -/
def execOpenAisle (tag : FrameTag) (aisle : Option Nat) (s : State) : Host.Outcome State Fault Refusal :=
  .next (s.receiveRequest (.openAisle tag aisle))

/-- CLOSE_AISLE (R180). -/
def execCloseAisle (tag : FrameTag) (aisle : Option Nat) (s : State) : Host.Outcome State Fault Refusal :=
  .next (s.receiveRequest (.closeAisle tag aisle))

/-- LOCKOUT_AISLE (R182, R183). -/
def execLockoutAisle (tag : FrameTag) (aisle : Option Nat) (s : State) : Host.Outcome State Fault Refusal :=
  .next (s.receiveRequest (.lockoutAisle tag aisle))

/-- RELEASE_AISLE (R184). -/
def execReleaseAisle (tag : FrameTag) (aisle : Option Nat) (s : State) : Host.Outcome State Fault Refusal :=
  .next (s.receiveRequest (.releaseAisle tag aisle))

/-- SET_CEILING (R112). -/
def execSetCeiling (tag : FrameTag) (req : Option CeilingReq) (s : State) : Host.Outcome State Fault Refusal :=
  .next (s.receiveRequest (.setCeiling tag req))

/-- EDIT_SCHEDULE (R117). -/
def execEditSchedule (tag : FrameTag) (req : Option EditReq) (s : State) : Host.Outcome State Fault Refusal :=
  .next (s.receiveRequest (.editSchedule tag req))

/-- COMMIT_SCHEDULE (R118). -/
def execCommitSchedule (tag : FrameTag) (aisle : Option Nat) (s : State) : Host.Outcome State Fault Refusal :=
  .next (s.receiveRequest (.commitSchedule tag aisle))

/-- QUERY_AISLE (R193). -/
def execQueryAisle (tag : FrameTag) (aisle : Option Nat) (s : State) : Host.Outcome State Fault Refusal :=
  .next (s.receiveRequest (.queryAisle tag aisle))

/-- CLEAR_CRANE (R80). -/
def execClearCrane (tag : FrameTag) (crane : Option Nat) (s : State) : Host.Outcome State Fault Refusal :=
  .next (s.receiveRequest (.clearCrane tag crane))

/-- QUERY_CRANE (R193). -/
def execQueryCrane (tag : FrameTag) (crane : Option Nat) (s : State) : Host.Outcome State Fault Refusal :=
  .next (s.receiveRequest (.queryCrane tag crane))

/-- QUERY_STATION (R168). -/
def execQueryStation (tag : FrameTag) (aisle : Option Nat) (s : State) : Host.Outcome State Fault Refusal :=
  .next (s.receiveRequest (.queryStation tag aisle))

/-- OPEN_GROUP (R158). -/
def execOpenGroup (tag : FrameTag) (req : Option GroupReq) (s : State) : Host.Outcome State Fault Refusal :=
  .next (s.receiveRequest (.openGroup tag req))

/-- GROUP_CANCEL (R163). -/
def execGroupCancel (tag : FrameTag) (id : Option Nat) (s : State) : Host.Outcome State Fault Refusal :=
  .next (s.receiveRequest (.groupCancel tag id))

/-- QUERY_GROUP (R169). -/
def execQueryGroup (tag : FrameTag) (id : Option Nat) (s : State) : Host.Outcome State Fault Refusal :=
  .next (s.receiveRequest (.queryGroup tag id))

/-- IDENTIFY (R193). -/
def execIdentify (tag : FrameTag) (body : List Byte) (s : State) : Host.Outcome State Fault Refusal :=
  .next (s.receiveRequest (.identify tag body))

/-- RESTART (R194). -/
def execRestart (tag : FrameTag) (body : List Byte) (s : State) : Host.Outcome State Fault Refusal :=
  .next (s.receiveRequest (.restart tag body))

end Sys2Proof.Machine
end

