-- ==== Sys2Proof/Machine/StationLink.lean ====
section
/-! DEFINITION. The station messages: LOAD_ARRIVED (R152), LOAD_DEPARTED (R166, R167), COLLECTOR_READY (R164),
STATION_FRAME_DISCARDED (R150). -/

namespace Sys2Proof.Machine

/-- R167: a STATION-FAULT is queued. -/
def State.stationFault (s : State) (a : Option AisleNo) (k : StationFault) : State :=
  ((Work.start s).report (.stationFault a k)).finish

/-- R152: an accepted arrival: the load joins the tail, the host report is queued, and an arrival into an empty FIFO
changes the head. -/
def Work.arrive (w : Work) (a : AisleNo) (x : InLoad) : Work :=
  let first := (w.st.station a).infeed.isEmpty
  let w := w.mapStation a (fun y => { y with infeed := y.infeed ++ [x] })
  let w := w.report (.loadArrived a x.tag x.mark)
  if first then w.claimDue a else w

/-- LOAD_ARRIVED (R152). -/
def execLoadArrived (aisle : Nat) (tag : Tag) (mark : Bool) (s : State) : Host.Outcome State Fault Refusal :=
  match aisleNo? aisle with
  | none => .next (s.stationFault none .malformed)
  | some a =>
    match (s.aisle a).profile with
    | none => .next (s.stationFault (some a) .noProfile)
    | some p =>
      if p.infeedCap ≤ (s.station a).infeed.length then .next (s.stationFault (some a) .infeedFull)
      else .next ((Work.start s).arrive a { tag := tag, mark := mark }).finish

/-- R166, step 2: the position of a departed load becomes RELEASED. -/
def Work.released (w : Work) (x : Option OutLoad) : Work :=
  match x.bind OutLoad.member with
  | some (gid, k) => w.setPosition gid k .released
  | none => w

/-- R166, step 4, R167: the departure notice to the cranes of the aisle. -/
def Work.departureNotice (w : Work) (a : AisleNo) : Work := (cranesOf a).foldl (fun w c => w.retryBlocked c) w

/-- R166: the departure from a RELEASING outfeed. -/
def Work.depart (w : Work) (a : AisleNo) : Work :=
  let head := w.st.outHead a
  let w := w.mapStation a (fun x => { x with outfeed := x.outfeed.tail, releasing := false })
  (((w.released head).roomNotice a).departureNotice a).askRelease

/-- LOAD_DEPARTED (R166, R167). -/
def execLoadDeparted (aisle : Nat) (s : State) : Host.Outcome State Fault Refusal :=
  match aisleNo? aisle with
  | none => .next (s.stationFault none .malformed)
  | some a =>
    if (s.station a).releasing then .next ((Work.start s).depart a).finish
    else
      .next (((Work.start s).report (.stationFault (some a) .unexpectedDeparture)).departureNotice a).finish

/-- COLLECTOR_READY (R164). -/
def execCollectorReady (s : State) : Host.Outcome State Fault Refusal :=
  .next (Work.start { s with stu := { s.stu with collector := .ready } }).askRelease.finish

/-- STATION_FRAME_DISCARDED (R150): a frame that passed its check but does not fit the message set is reported; the
others are discarded without answer. -/
def execStationFrameDiscarded (why : StationDiscard) (s : State) : Host.Outcome State Fault Refusal :=
  match why with
  | .badCheck => .next s
  | .oversize => .next s
  | .malformed a => .next (s.stationFault (a.bind aisleNo?) .malformed)

end Sys2Proof.Machine
end

