-- ==== Sys2Proof/Machine/Timers.lean ====
section
/-! DEFINITION. The expiries: MOTION_DEADLINE_EXPIRY (R67), STOP_ANSWER_TIMEOUT (R61), ECHO_DEADLINE_EXPIRY (R176),
AGING_EXPIRY (R32), PARK_EXPIRY (R86). An expiry is taken at its time; one that is not timed changes nothing (log
entry 2). -/

namespace Sys2Proof.Machine

/-- An event at a point of the timer. -/
def State.timed (s : State) (t : Ms) (f : Work → Work) : Host.Outcome State Fault Refusal :=
  .next (f ((Work.start s).reach t)).finish

/-- MOTION_DEADLINE_EXPIRY (R67): the crane enters FAULTED with cause OVERRUN. -/
def execMotionDeadlineExpiry (c : CraneNo) (s : State) : Host.Outcome State Fault Refusal :=
  match (s.crane c).motionDeadline with
  | none => .next s
  | some t => s.timed t (fun w => w.fault c .overrun)

/-- R61: the deadline is dropped, CRANE-STATE with note NO-ANSWER is queued, and the wait ends. -/
def Work.noAnswer (w : Work) (c : CraneNo) : Work :=
  let w := w.mapCrane c (fun x => { x with stopDeadline := none })
  (w.reportCraneAs c (w.st.crane c).fault true false).endOfWait c

/-- STOP_ANSWER_TIMEOUT (R61). -/
def execStopAnswerTimeout (c : CraneNo) (s : State) : Host.Outcome State Fault Refusal :=
  match (s.crane c).stopDeadline with
  | none => .next s
  | some t => s.timed t (fun w => w.noAnswer c)

/-- ECHO_DEADLINE_EXPIRY (R176): the outstanding frame counts as an error. -/
def execEchoDeadlineExpiry (c : CraneNo) (s : State) : Host.Outcome State Fault Refusal :=
  match (s.provingOf c).echoDeadline, (s.provingOf c).frame with
  | some t, some n => s.timed t (fun w => w.afterFrame c n ((w.st.provingOf c).errors + 1))
  | _, _ => .next s

/-- R32: the time at which a job ages, when it does. -/
def State.agingTime (s : State) (id : JobId) : Option Ms :=
  match s.job? id with
  | none => none
  | some j =>
    let step := (s.prof j.aisle).agingStep
    if j.state = .ready ∧ 2 ≤ j.urgency ∧ j.urgency ≤ 6 ∧ step ≠ 0 then j.readySince.map (fun t => t + 1000 * step)
    else none

/-- R32: an aging expiry. -/
def Work.age (w : Work) (id : JobId) : Work :=
  match w.st.job? id with
  | none => w
  | some j =>
    (w.mapJob id (fun x => { x with urgency := x.urgency - 1, readySince := some w.st.now })).noticeReady id j.aisle

/-- AGING_EXPIRY (R32). -/
def execAgingExpiry (id : JobId) (s : State) : Host.Outcome State Fault Refusal :=
  match s.agingTime id with
  | none => .next s
  | some t => s.timed t (fun w => w.age id)

/-- R86: the park bay of a crane. -/
def parkBay (p : Profile) : Role → Nat
  | .rear => p.parkRear
  | _ => p.parkFront

/-- R86: the time at which a crane parks, when the conditions hold. -/
def State.parkTime (s : State) (c : CraneNo) : Option Ms :=
  let x := s.crane c
  let p := s.craneProf c
  if x.state = .idle ∧ (s.aisle (aisleOf c)).state = .opened ∧ p.parkDelay ≠ 0 ∧ x.refStatus = .current ∧
      x.pos.isSome = true ∧ x.pos ≠ some (parkBay p x.role, 0) ∧ x.link = .proven ∧ x.stopDeadline = none then
    x.idleSince.map (fun t => t + 1000 * p.parkDelay)
  else none

/-- R86: a park expiry: MOVE PARK when the plain test passes; otherwise the idle-since time is set anew. -/
def Work.park (w : Work) (c : CraneNo) : Work :=
  let x := w.st.crane c
  let t := parkBay (w.st.craneProf c) x.role
  if w.st.plainTest c (hull2 (x.pos.getD (t, 0)).1 t) then w.sendMove c t .park
  else w.mapCrane c (fun x => { x with idleSince := some w.st.now })

/-- PARK_EXPIRY (R86). -/
def execParkExpiry (c : CraneNo) (s : State) : Host.Outcome State Fault Refusal :=
  match s.parkTime c with
  | none => .next s
  | some t => s.timed t (fun w => w.park c)

end Sys2Proof.Machine
end

