-- ==== Sys2Proof/Machine/Dispatch.lean ====
section
/-! DEFINITION. The dispatch of a command to its meaning: one arm per constructor of `Instr`, in the order of
spec/opcode_table.json. -/

namespace Sys2Proof.Machine

def exec (i : Instr) (s : State) : Host.Outcome State Fault Refusal :=
  match i with
  | .hardwareReset => Sys2Proof.Machine.execHardwareReset s
  | .stationLinkUp => Sys2Proof.Machine.execStationLinkUp s
  | .hostFrameReceived bytes => Sys2Proof.Machine.execHostFrameReceived bytes s
  | .frameTransmissionEnd => Sys2Proof.Machine.execFrameTransmissionEnd s
  | .unknownKind kind tag => Sys2Proof.Machine.execUnknownKind kind tag s
  | .submitJob tag body => Sys2Proof.Machine.execSubmitJob tag body s
  | .setUrgency tag req => Sys2Proof.Machine.execSetUrgency tag req s
  | .cancelJob tag id => Sys2Proof.Machine.execCancelJob tag id s
  | .queryJob tag id => Sys2Proof.Machine.execQueryJob tag id s
  | .submitRun tag body => Sys2Proof.Machine.execSubmitRun tag body s
  | .endRun tag req => Sys2Proof.Machine.execEndRun tag req s
  | .queryRun tag id => Sys2Proof.Machine.execQueryRun tag id s
  | .loadLocations tag req => Sys2Proof.Machine.execLoadLocations tag req s
  | .setLocation tag req => Sys2Proof.Machine.execSetLocation tag req s
  | .lockLocation tag loc => Sys2Proof.Machine.execLockLocation tag loc s
  | .unlockLocation tag loc => Sys2Proof.Machine.execUnlockLocation tag loc s
  | .queryLocation tag req => Sys2Proof.Machine.execQueryLocation tag req s
  | .setProfile tag req => Sys2Proof.Machine.execSetProfile tag req s
  | .openAisle tag aisle => Sys2Proof.Machine.execOpenAisle tag aisle s
  | .closeAisle tag aisle => Sys2Proof.Machine.execCloseAisle tag aisle s
  | .lockoutAisle tag aisle => Sys2Proof.Machine.execLockoutAisle tag aisle s
  | .releaseAisle tag aisle => Sys2Proof.Machine.execReleaseAisle tag aisle s
  | .setCeiling tag req => Sys2Proof.Machine.execSetCeiling tag req s
  | .editSchedule tag req => Sys2Proof.Machine.execEditSchedule tag req s
  | .commitSchedule tag aisle => Sys2Proof.Machine.execCommitSchedule tag aisle s
  | .queryAisle tag aisle => Sys2Proof.Machine.execQueryAisle tag aisle s
  | .clearCrane tag crane => Sys2Proof.Machine.execClearCrane tag crane s
  | .queryCrane tag crane => Sys2Proof.Machine.execQueryCrane tag crane s
  | .queryStation tag aisle => Sys2Proof.Machine.execQueryStation tag aisle s
  | .openGroup tag req => Sys2Proof.Machine.execOpenGroup tag req s
  | .groupCancel tag id => Sys2Proof.Machine.execGroupCancel tag id s
  | .queryGroup tag id => Sys2Proof.Machine.execQueryGroup tag id s
  | .identify tag body => Sys2Proof.Machine.execIdentify tag body s
  | .restart tag body => Sys2Proof.Machine.execRestart tag body s
  | .atSource crane => Sys2Proof.Machine.execAtSource crane s
  | .fetchedOk crane tag => Sys2Proof.Machine.execFetchedOk crane tag s
  | .fetchedEmpty crane => Sys2Proof.Machine.execFetchedEmpty crane s
  | .atDestination crane => Sys2Proof.Machine.execAtDestination crane s
  | .placedOk crane => Sys2Proof.Machine.execPlacedOk crane s
  | .placedOccupied crane => Sys2Proof.Machine.execPlacedOccupied crane s
  | .moved crane => Sys2Proof.Machine.execMoved crane s
  | .referenced crane drift sensed tag => Sys2Proof.Machine.execReferenced crane drift sensed tag s
  | .stopped crane => Sys2Proof.Machine.execStopped crane s
  | .redirectTaken crane => Sys2Proof.Machine.execRedirectTaken crane s
  | .redirectLate crane => Sys2Proof.Machine.execRedirectLate crane s
  | .abortTaken crane bay level => Sys2Proof.Machine.execAbortTaken crane bay level s
  | .abortLate crane => Sys2Proof.Machine.execAbortLate crane s
  | .echo crane frame body => Sys2Proof.Machine.execEcho crane frame body s
  | .craneFault crane code => Sys2Proof.Machine.execCraneFault crane code s
  | .misfitReport crane => Sys2Proof.Machine.execMisfitReport crane s
  | .craneFrameDiscarded crane why => Sys2Proof.Machine.execCraneFrameDiscarded crane why s
  | .motionDeadlineExpiry crane => Sys2Proof.Machine.execMotionDeadlineExpiry crane s
  | .stopAnswerTimeout crane => Sys2Proof.Machine.execStopAnswerTimeout crane s
  | .echoDeadlineExpiry crane => Sys2Proof.Machine.execEchoDeadlineExpiry crane s
  | .agingExpiry id => Sys2Proof.Machine.execAgingExpiry id s
  | .parkExpiry crane => Sys2Proof.Machine.execParkExpiry crane s
  | .loadArrived aisle tag mark => Sys2Proof.Machine.execLoadArrived aisle tag mark s
  | .loadDeparted aisle => Sys2Proof.Machine.execLoadDeparted aisle s
  | .collectorReady => Sys2Proof.Machine.execCollectorReady s
  | .stationFrameDiscarded why => Sys2Proof.Machine.execStationFrameDiscarded why s
  | .recordFreeNotice => Sys2Proof.Machine.execRecordFreeNotice s

end Sys2Proof.Machine
end

