-- ==== Sys2Proof/Machine/Step.lean ====
section
/-! DEFINITION. The step: the command at the front of the queue is carried out on the state with the queue's rest; on an empty
queue the part idles for one millisecond (log entry 1). -/

namespace Sys2Proof.Machine

/-- An empty queue: nothing happens but the passing of one millisecond (DESIGN CHOICE, log entry 1). -/
def State.idle (s : State) : State := { s with now := s.now + 1 }

/-- The state with a command removed from the front of its queue. -/
def State.withRest (s : State) (rest : List Instr) : State := { s with pending := rest }

/-- One step. -/
def step (s : State) : Host.Outcome State Fault Refusal :=
  match s.pending with
  | [] => .next s.idle
  | c :: rest => exec c (s.withRest rest)

/-- A command put at the front of the queue. -/
def State.withFront (s : State) (c : Instr) : State := { s with pending := c :: s.pending }

/-- The state with the command that a word spells at the front of its queue, and the state itself where the word spells
none. -/
def State.withFetchWord (s : State) (nbits w : Nat) : State :=
  match decodeTableWord nbits w with
  | some c => s.withFront c
  | none => s

end Sys2Proof.Machine
end

