-- ==== Sys2Proof/Safety.lean ====
section
/-! DEFINITION. What a safe run is, in the terms the statements use: the invariants that every event keeps, that of the
shared rail among them, the replies and reports a state has given, the requests with their refusals, and the state after a
request that changes nothing but the host link. -/

namespace Sys2Proof.Machine

/-! ## Invariants -/

/-- R188–R192: the buffers of the host link stay within their capacities; a request at the head of the input buffer waits only
while the reply queue is full; the line is idle only while both queues are empty; the dispatch pause is in force at 96
entries and more, and only above 64. -/
def Hli.ok (h : Hli) : Prop :=
  h.input.length ≤ Config.inputFrames ∧ h.replies.length ≤ Config.replyEntries ∧
  h.reports.length ≤ Config.reportEntries ∧ h.lost ≤ Config.maxLost ∧
  (∀ c, h.input.head? = some (.request c) → h.replies.length = Config.replyEntries) ∧
  (h.line = none → h.replies = [] ∧ h.reports = []) ∧
  (Config.pauseRaise ≤ h.reports.length → h.pause = true) ∧ (h.pause = true → Config.pauseDrop < h.reports.length)

/-- The part of `Hli.ok` that R190 gives: an idle line has nothing to send. -/
def State.lineFed (s : State) : Prop := s.hli.line = none → s.hli.replies = [] ∧ s.hli.reports = []

/-- R19, R20, R21, R136, R158, R22, R112: the tables stay within their sizes, the counters within their ranges, and every
urgency and ceiling within 0–7. -/
def State.bounded (s : State) : Prop :=
  s.jtb.jobs.length ≤ Config.maxJobs ∧ s.rnu.runs.length ≤ Config.maxRuns ∧ s.groups.length ≤ Config.maxGroups ∧
  (1 ≤ s.jtb.stamp ∧ s.jtb.stamp ≤ Config.lastId) ∧
  (Config.firstInternalId ≤ s.jtb.internalId ∧ s.jtb.internalId ≤ Config.lastId) ∧
  (∀ j ∈ s.jtb.jobs, j.urgency ≤ 7) ∧ (∀ r ∈ s.rnu.runs, r.urgency ≤ 7 ∧ 1 ≤ r.window ∧ r.window ≤ 4) ∧
  (∀ a, (s.aisle a).ceiling ≤ 7)

/-- R172: the values a profile can hold. -/
def Profile.legal (p : Profile) : Prop :=
  (1 ≤ p.bays ∧ p.bays ≤ 96) ∧ (1 ≤ p.levels ∧ p.levels ≤ 24) ∧ (p.craneCount = 1 ∨ p.craneCount = 2) ∧
  (500 ≤ p.bayPitch ∧ p.bayPitch ≤ 4000) ∧ (300 ≤ p.levelPitch ∧ p.levelPitch ≤ 3000) ∧
  (500 ≤ p.vx ∧ p.vx ≤ 6000) ∧ (100 ≤ p.ax ∧ p.ax ≤ 2000) ∧ (200 ≤ p.vy ∧ p.vy ≤ 3000) ∧
  (100 ≤ p.ay ∧ p.ay ≤ 2000) ∧ (1000 ≤ p.forkNear ∧ p.forkNear ≤ 30000) ∧
  (p.forkNear ≤ p.forkFar ∧ p.forkFar ≤ 60000) ∧ (1 ≤ p.separation ∧ p.separation ≤ 8) ∧
  (p.craneCount = 2 → 2 * p.separation + 2 ≤ p.bays) ∧ p.overrunPercent ≤ 100 ∧ p.overrunMargin ≤ 60000 ∧
  (50 ≤ p.refInterval ∧ p.refInterval ≤ 5000) ∧ p.driftLimit ≤ 50 ∧ p.parkDelay ≤ 600 ∧
  (p.agingStep = 0 ∨ (10 ≤ p.agingStep ∧ p.agingStep ≤ 3600)) ∧ (1 ≤ p.infeedCap ∧ p.infeedCap ≤ 4) ∧
  (1 ≤ p.outfeedCap ∧ p.outfeedCap ≤ 4) ∧ p.provingAllowance ≤ 7

/-- R55, R172, R152: every profile is legal, every crane has the role its aisle's profile gives it, and an infeed FIFO holds
at most its capacity, and nothing in an aisle without a profile. -/
def State.profiled (s : State) : Prop :=
  (∀ a p, (s.aisle a).profile = some p → p.legal) ∧
  (∀ c, (s.crane c).role = match (s.aisle (aisleOf c)).profile with
    | none => .absent
    | some p => roleOf p.craneCount c) ∧
  (∀ a, (s.station a).infeed.length ≤ match (s.aisle a).profile with
    | none => 0
    | some p => p.infeedCap)

/-- R58, R150: every frame sent on a crane link carries its frame number in its tag when it is a PROBE, and tag 0 otherwise,
and every frame sent on the station link carries tag 0. -/
def State.tagged (s : State) : Prop :=
  (∀ c n o, Sent.crane c n o ∈ s.sent →
    (∀ frame body, o = .probe frame body → n = BitVec.ofNat 16 frame) ∧ ((∀ frame body, o ≠ .probe frame body) → n = 0)) ∧
  ∀ n o, Sent.station n o ∈ s.sent → n = 0

/-- A safe state: the five invariants together. -/
def State.safe (s : State) : Prop := s.hli.ok ∧ s.ltb.wf = true ∧ s.bounded ∧ s.profiled ∧ s.tagged

/-- A safe run: the given number of steps, each from a safe state to a safe state. -/
def safeRun : Nat → State → Prop
  | 0, s => s.safe
  | n + 1, s => s.safe ∧ ∃ t, step s = .next t ∧ safeRun n t

/-! ## The shared rail (R89) -/

/-- Whether a span holds a bay. -/
def holdsBay (x : Span) (b : Nat) : Prop := x.1 ≤ b ∧ b ≤ x.2

/-- The crane states that go with a job's state: a crane in LEAD or HOLD has its job in LEAD, and so on; one that is FAULTED,
STOPPED or in REFERENCE has a STRANDED job, and any other no job (R28, R62–R65, R73, R182). -/
def CraneState.serves : CraneState → JobState → Bool
  | .lead, .lead => true
  | .hold, .lead => true
  | .fetch, .fetch => true
  | .haul, .haul => true
  | .place, .place => true
  | .reference, .stranded _ => true
  | .faulted, .stranded _ => true
  | .stopped, .stranded _ => true
  | _, _ => false

/-- A crane's job is live, is the crane's, and is in a state that goes with the crane's. -/
def State.jobFits (s : State) (c : CraneNo) : Prop :=
  ∀ id, (s.crane c).job = some id →
    ∃ j, s.job? id = some j ∧ j.crane = some c ∧ (s.crane c).state.serves j.state = true

/-- R91, R115: a crane under REDIRECT is in LEAD or FETCH, a job is promised to it, and its claim is the one that job forms;
any other crane has neither a promise nor a claim. -/
def State.promiseFits (s : State) (c : CraneNo) : Prop :=
  match (s.crane c).order with
  | .redirect => ((s.crane c).state = .lead ∨ (s.crane c).state = .fetch) ∧
      ∃ k cl, (s.crane c).promised = some k.id ∧ s.job? k.id = some k ∧ k.state = .promised ∧ k.crane = some c ∧
        s.claimFor c k = some cl ∧ s.claimOf c = some cl
  | _ => (s.crane c).promised = none ∧ s.claimOf c = none

/-- R87: a crane's span and claim lie in its reach. -/
def State.reachFits (s : State) (c : CraneNo) : Prop :=
  ∀ x, ((s.crane c).span = some x ∨ s.claimOf c = some x) →
    x.1 ≤ x.2 ∧ inReach (s.craneProf c) (s.crane c).role x.1 = true ∧ inReach (s.craneProf c) (s.crane c).role x.2 = true

/-- A crane's job with its destination, both ends in the crane's span. -/
def State.endsHeld (s : State) (c : CraneNo) (j : Job) (d : Place) : Prop :=
  s.craneJob? c = some j ∧ j.dest = some d ∧ d ≠ .infeed ∧
    ∃ x, (s.crane c).span = some x ∧ holdsBay x (d.bay (s.craneProf c))

/-- R90, R94, R95: what a crane's span holds in each state. -/
def State.spanFits (s : State) (c : CraneNo) : Prop :=
  let x := s.crane c
  let p := s.craneProf c
  match x.state with
  | .offline => x.span = none ∧ x.motionDeadline = none
  | .stopped => x.span = none ∧ x.motionDeadline = none
  | .idle => ∃ q, x.pos = some q ∧ x.span = some (q.1, q.1)
  | .hold => ∃ q j d t, x.pos = some q ∧ x.span = some (q.1, q.1) ∧ s.craneJob? c = some j ∧ j.dest = some d ∧
      (s.crane (other c)).state = .move ∧ (s.crane (other c)).move = some (.yielding, t) ∧ d ≠ .infeed ∧
      inReach p x.role (cycleSpan p q j.source d).1 = true ∧ inReach p x.role (cycleSpan p q j.source d).2 = true ∧
      apart p x.role (cycleSpan p q j.source d) (t, t) = true
  | .lead => ∃ j d, s.endsHeld c j d ∧ x.pos.isSome = true ∧ ∀ y, x.span = some y → holdsBay y (j.source.bay p)
  | .fetch => ∃ j d, s.endsHeld c j d ∧ x.standing = some j.source ∧ ∀ y, x.span = some y → holdsBay y (j.source.bay p)
  | .haul => ∃ j d, s.endsHeld c j d
  | .place => ∃ y st leg j, x.span = some y ∧ x.standing = some st ∧ holdsBay y (st.bay p) ∧ x.leg = some leg ∧
      s.craneJob? c = some j ∧
      match leg with
      | .travelling => ∃ d, s.endsHeld c j d
      | .atPlace => st ≠ .infeed
      | .waiting => j.waits.stationBlocked = true → st = .outfeed
  | .move => ∃ y m, x.span = some y ∧ x.move = some m ∧ holdsBay y m.2
  | .reference => x.carryPending = true → ∃ q, x.pos = some q ∧ x.span = some (q.1, q.1)
  | .faulted => True

/-- R171, R174–R182: where an aisle's state says that its cranes stand still: CLOSED and PROVING have them OFFLINE, LOCKOUT
OFFLINE or STOPPED, and only a PROVING aisle proves links. -/
def State.aisleFits (s : State) (c : CraneNo) : Prop :=
  let a := s.aisle (aisleOf c)
  let x := s.crane c
  (a.start.isSome = true → a.state = .starting) ∧
  (x.role = .absent ∨ a.state = .closed ∨ a.start.map Start.phase = some .proving → x.state = .offline) ∧
  (a.state = .lockout → x.state = .offline ∨ x.state = .stopped) ∧
  (x.link = .proving → x.role ≠ .absent ∧ a.start.map Start.phase = some .proving) ∧
  ((s.provingOf c).frame.isSome = true → x.link = .proving)

/-- R77, R79: NO-PLACE and STATION-BLOCKED are held only by a job whose crane waits in PLACE, and never together. -/
def State.blockedFits (s : State) : Prop :=
  ∀ j ∈ s.jtb.jobs, (j.waits.noPlace = true ∨ j.waits.stationBlocked = true) →
    (j.waits.noPlace = false ∨ j.waits.stationBlocked = false) ∧
    ∃ c, (s.crane c).job = some j.id ∧ (s.crane c).state = .place ∧ (s.crane c).leg = some .waiting

/-- R89: the rails are in order: the effective spans of two cranes of one aisle keep the separation, and everything a later
span follows from stands: live ids (R20), jobs, promises, claims, reaches, and the states of cranes and aisles. -/
def State.railed (s : State) : Prop :=
  (∀ c, s.jobFits c ∧ s.promiseFits c ∧ s.reachFits c ∧ s.spanFits c ∧ s.aisleFits c) ∧
  (s.jtb.jobs.map Job.id).Nodup ∧ (∀ j ∈ s.jtb.jobs, j.dest ≠ some .infeed) ∧ s.blockedFits ∧
  (∀ c x y, (s.crane c).role = .front → s.effectiveSpan c = some x → s.effectiveSpan (other c) = some y →
    x.2 + (s.craneProf c).separation ≤ y.1)

/-! ## What a state has told the host -/

/-- The reply a message is, if it is one. -/
def Sent.reply? : Sent → Option Reply
  | .host (.reply r) => some r
  | _ => none

/-- The report a message is, if it is one. -/
def Sent.report? : Sent → Option Report
  | .host (.report _ r) => some r
  | _ => none

/-- Every reply given since the hardware reset, oldest first: those whose transmission has begun, then those queued. -/
def State.answers (s : State) : List Reply := s.sent.filterMap Sent.reply? ++ s.hli.replies

/-- Every report that is sent or queued. -/
def State.told (s : State) : List Report := s.sent.filterMap Sent.report? ++ s.hli.reports

/-- The orders sent to a crane, oldest first. -/
def State.ordersTo (s : State) (c : CraneNo) : List CraneOrder :=
  s.sent.filterMap (fun x => match x with
    | .crane d _ o => if d = c then some o else none
    | _ => none)

/-- A state whose line was fed, after one request that changed nothing but the host link: the reply is on the line when that
was idle, and at the queue's tail otherwise. -/
def State.replied (s : State) (r : Reply) : State :=
  match s.hli.line with
  | none => { s with hli := { s.hli with line := some (.reply r) }, sent := s.sent ++ [.host (.reply r)] }
  | some _ => { s with hli := { s.hli with replies := s.hli.replies ++ [r] } }

/-- The reply of a request kind with a result and no data. -/
def plainReply (k : RequestKind) (tag : FrameTag) (r : Result) : Reply :=
  { kind := .request k, tag := tag, result := r, data := .none }

/-- A message told to the host, on the line or queued: the state in which a report joins the end of a queue with room, when
the line is busy. -/
def State.reported (s : State) (r : Report) : State := { s with hli := s.hli.queue r }

/-! ## Requests -/

/-- The crane whose link carries a crane report. -/
def reportingCrane : Instr → Option CraneNo
  | .atSource c => some c
  | .fetchedOk c _ => some c
  | .fetchedEmpty c => some c
  | .atDestination c => some c
  | .placedOk c => some c
  | .placedOccupied c => some c
  | .moved c => some c
  | .referenced c _ _ _ => some c
  | .stopped c => some c
  | .redirectTaken c => some c
  | .redirectLate c => some c
  | .abortTaken c _ _ => some c
  | .abortLate c => some c
  | .echo c _ _ => some c
  | .craneFault c _ => some c
  | .misfitReport c => some c
  | .craneFrameDiscarded c _ => some c
  | _ => none

/-- The code of a check that fails. -/
def errorOf {α : Type} : Except Result α → Option Result
  | .error r => some r
  | .ok _ => none

/-- The code with which the owner's checks refuse a request, when they do. -/
def refusalOf (s : State) : Instr → Option Result
  | .submitJob _ b => errorOf (s.checkJob b)
  | .setUrgency _ r => errorOf (s.checkUrgency r)
  | .cancelJob _ i => errorOf (needed i >>= s.hostJob)
  | .queryJob _ i => errorOf (needed i >>= s.anyJob)
  | .submitRun _ b => errorOf (s.checkRun b)
  | .endRun _ r => errorOf (s.checkEndRun r)
  | .queryRun _ i => errorOf (needed i >>= s.liveRun)
  | .loadLocations _ r => errorOf (s.checkLoad r)
  | .setLocation _ r => errorOf (s.checkSet r)
  | .lockLocation _ l => errorOf (s.checkLock l)
  | .unlockLocation _ l => errorOf (s.checkLock l)
  | .queryLocation _ r => errorOf (s.checkQueryLoc r)
  | .setProfile _ r => errorOf (s.checkProfile r)
  | .openAisle _ a => errorOf (s.checkOpen a)
  | .closeAisle _ a => errorOf (s.checkState a (fun x => x = .opened))
  | .lockoutAisle _ a => errorOf (s.checkState a (fun x => x ≠ .closed))
  | .releaseAisle _ a => errorOf (s.checkState a (fun x => x = .lockout))
  | .setCeiling _ r => errorOf (checkCeiling r)
  | .editSchedule _ r => errorOf (checkEdit r)
  | .commitSchedule _ a => errorOf (aisleField a)
  | .queryAisle _ a => errorOf (aisleField a)
  | .clearCrane _ c => errorOf (s.checkClear c)
  | .queryCrane _ c => errorOf (craneField c)
  | .queryStation _ a => errorOf (aisleField a)
  | .openGroup _ r => errorOf (s.checkOpenGroup r)
  | .groupCancel _ i => errorOf (needed i >>= s.existingGroup)
  | .queryGroup _ i => errorOf (needed i >>= s.existingGroup)
  | .identify _ b => errorOf (emptyBody b)
  | .restart _ b => errorOf (emptyBody b)
  | _ => none

end Sys2Proof.Machine
end

