-- ==== Sys2Proof/Certificates/Slice0/Obligations.lean ====
section
/-! DEFINITION. The statements for the provers, in the order of OBLIGATIONS.json: the queue and the resets, the invariants
of every step, the host link, jobs, travel times, locations, aisles, cranes, the shared rail, place selection, runs,
stations and groups. -/

open Sys2Proof Sys2Proof.Machine

/-! ## The queue, and the invariants of every step -/

/-- The block's own step: it carries out the command at the front of the queue on the state with the queue's rest. On an empty
queue one millisecond passes and nothing else changes (the model's choice, log entry 1). -/
def Obligations.StepRunsTheFrontCommand : Prop :=
  (∀ (s : State) (c : Instr) (rest : List Instr), s.pending = c :: rest →
    step s = exec c { s with pending := rest }) ∧
  (∀ (s : State) (c : Instr), step (s.withFront c) = exec c s) ∧
  (∀ s : State, s.pending = [] → step s = .next { s with now := s.now + 1 })

/-- Every command of the table leads to a next state, from every state: no event stops the part. -/
def Obligations.EveryCommandHasANextState : Prop :=
 ∀ (c : Instr) (s : State), ∃ t, exec c s = .next t

/-- R195, with the values of R3, R43, R57, R112, R120, R149, R170, R171 for the other blocks: what a hardware reset leaves,
in every state; RESYNC is sent when the station link then comes up. That the bytes of a host frame not yet complete are
dropped is the model's choice (log entry 48). The commands that wait stay: the queue is the model's own (log entry 1). The log
of messages and the count of record-free notices, the model's own too, are emptied (log entries 37 and 8). -/
def Obligations.HardwareResetGivesTheResetValues : Prop :=
  let blank := fun (n : Nat) (l : SchedList n) =>
    l.count = 0 ∧ ∀ i : Fin n, l.entries[i] = { queue := none, kind := .any, crane := .either }
  let blanks := fun (x : Schedule) => blank 64 x.wheel ∧ blank 16 x.priority ∧ blank 16 x.rot1 ∧ blank 16 x.rot2
  ∀ s : State, ∃ t, exec .hardwareReset s = .next t ∧
    t.hli.rx = [] ∧ t.hli.input = [] ∧ t.hli.replies = [] ∧ t.hli.reports = [] ∧ t.hli.lost = 0 ∧
    t.hli.pause = false ∧ t.hli.line = none ∧ t.readyLine = true ∧ t.sent = [] ∧ t.pending = s.pending ∧
    t.jtb.jobs = [] ∧ (∀ q : QueueNo, t.jtb.queues[q] = []) ∧ t.jtb.stamp = 1 ∧ t.jtb.internalId = 2147483648 ∧
    t.jtb.clearWait = [] ∧ t.jtb.freeNotices = 0 ∧ t.rnu.runs = [] ∧ t.rnu.marker = none ∧ t.ltb = [] ∧
    t.groups = [] ∧ t.stu.collector = .notReady ∧ t.stu.rotation = 0 ∧
    (∀ a : AisleNo, (t.station a).infeed = [] ∧ (t.station a).outfeed = [] ∧ (t.station a).reserved = [] ∧
      (t.station a).releasing = false) ∧
    (∀ a : AisleNo, (t.aisle a).state = .closed ∧ (t.aisle a).start = none ∧ (t.aisle a).resume = none ∧
      (t.aisle a).profile = none ∧ (t.aisle a).ceiling = 7 ∧ blanks (t.aisle a).active ∧
      blanks (t.aisle a).pendingCopy ∧ (t.aisle a).wheelPtr = 0 ∧ (t.aisle a).rot1Ptr = 0 ∧
      (t.aisle a).rot2Ptr = 0 ∧ (t.aisle a).marked = false) ∧
    (∀ c : CraneNo, t.claimOf c = none ∧ t.crane c =
      { role := .absent, state := .offline, pos := none, standing := none, span := none, job := none,
        promised := none, order := .none, leg := none, move := none, carryPending := false, load := .none,
        cycles := 0, refStatus := .current, link := .unproven, motionDeadline := none, stopDeadline := none,
        idleSince := none, fault := none }) ∧
    exec .stationLinkUp t =
      .next { t with stu := { t.stu with linkUp := true }, sent := [.station 0 .resync] }

/-- The state after a hardware reset is safe, and its rails are in order: it meets the five invariants below, and that of
R89. -/
def Obligations.ResetIsSafe : Prop :=
  State.reset.safe ∧ State.reset.railed

/-- R188, R190–R192: every step keeps the capacities of the host link's buffers, an idle line only over empty queues, and
the two thresholds of the dispatch pause. -/
def Obligations.EveryStepKeepsTheHostLinkInvariant : Prop :=
  ∀ s t : State, s.hli.ok → step s = .next t → t.hli.ok

/-- Log entry 5: every step keeps the canonical form of the location table: addresses strictly rising, and no record equal
to that of an unlisted location. -/
def Obligations.EveryStepKeepsTheLocationTableForm : Prop :=
  ∀ s t : State, s.ltb.wf = true → step s = .next t → t.ltb.wf = true

/-- R19–R22, R31, R33, R112, R136, R158: every step keeps the tables within their sizes, the stamp and the internal id
within their ranges, and every urgency, ceiling and run window within its range. -/
def Obligations.EveryStepKeepsTheTablesBounded : Prop :=
  ∀ s t : State, s.bounded → step s = .next t → t.bounded

/-- R55, R152, R172, R173: every step keeps the profiles legal, the roles those of the profiles, and the infeed FIFOs
within their capacities. R58, R150: every step keeps the tags of the orders sent: the frame number in a PROBE, 0 in every other
order and in every station link frame. -/
def Obligations.EveryStepKeepsProfilesAndRoles : Prop :=
  (∀ s t : State, s.profiled → step s = .next t → t.profiled) ∧
  (∀ s t : State, s.tagged → step s = .next t → t.tagged)

/-- The frame of every command but a request, a hardware reset and the bytes of the host link (crane reports, expiries, station
messages, the link-up, the end of a transmission, the record-free notice): the waiting commands, the input buffer, every
aisle's profile, ceiling and pending schedule copy, and every crane's role stay; messages are only added; and no locked flag
changes, but for PLACED OCCUPIED (R11, R77). The end of a transmission is taken with no request waiting, since it lets one
in (R189). -/
def Obligations.EventsKeepTheConfiguration : Prop :=
  ∀ (i : Instr) (s t : State), requestOf i = none → i ≠ .hardwareReset → (∀ b, i ≠ .hostFrameReceived b) →
    (i = .frameTransmissionEnd → ∀ c, s.hli.input.head? ≠ some (.request c)) → exec i s = .next t →
    t.pending = s.pending ∧ t.hli.rx = s.hli.rx ∧ t.hli.input = s.hli.input ∧
    (∀ a, (t.aisle a).profile = (s.aisle a).profile ∧ (t.aisle a).ceiling = (s.aisle a).ceiling ∧
      (t.aisle a).pendingCopy = (s.aisle a).pendingCopy) ∧
    (∀ c, (t.crane c).role = (s.crane c).role) ∧ (∃ new, t.sent = s.sent ++ new) ∧
    (s.ltb.wf = true → (∀ c, i ≠ .placedOccupied c) → ∀ l, (t.loc l).locked = (s.loc l).locked)

/-! ## The host link -/

/-- R187, R188: from a line without a frame begun, the bytes of any frame with a body of at most 1,024 bytes put exactly that
frame at the tail of an input buffer with room. A full buffer discards it: its sync byte alone is used, the search goes on
with the byte behind that (log entry 41), and nothing but the bytes still unused is changed. The bytes of a frame read back
as the frame, and the check of a frame the part sends is computed in the same way: the CRC over its fields and its check
is 0. The body of such a frame and the numbers of the kinds are free values (log entry 29). -/
def Obligations.EveryFrameIsReceived : Prop :=
  (∀ (s : State) (f : HostFrame), f.body.length ≤ 1024 → s.hli.rx = [] →
    (s.hli.input.length < 4 →
      exec (.hostFrameReceived f.bytes) s = .next (s.withInput (s.hli.input ++ [.read f]))) ∧
    (4 ≤ s.hli.input.length →
      exec (.hostFrameReceived f.bytes) s = exec (.hostFrameReceived (f.bytes.drop 1)) s ∧
      ∃ rx, exec (.hostFrameReceived f.bytes) s = .next { s with hli := { s.hli with rx := rx } })) ∧
  (∀ f : HostFrame, f.body.length ≤ 1024 → readFrame (f.bytes.drop 1) = .frame f []) ∧
  (∀ x : OutFrame, crc16 (x.bytes.drop 1) = 0)

/-- R187: where the bytes of the line are cut makes no difference: two deliveries leave what one delivery of all the bytes
leaves, whatever was read before, with damaged frames among them. -/
def Obligations.BytesMayArriveInPieces : Prop :=
  ∀ (s : State) (x y : List Byte), ∃ t u, exec (.hostFrameReceived x) s = .next t ∧
    exec (.hostFrameReceived y) t = .next u ∧ exec (.hostFrameReceived (x ++ y)) s = .next u

/-- R190: at the end of a transmission the head reply follows, else the head report, with tag 0 (R187), else the line is
idle. Replies and reports not sent stay as they were. The second clause takes a report whose leaving loses no count (R191)
and, where it ends the dispatch pause (R192), finds no OPEN aisle to evaluate. The last: the place that a reply leaves lets
the request that waited alone be taken, as if it came to that state (R189; log entry 7). -/
def Obligations.TransmissionEndStartsTheNextFrame : Prop :=
  ∀ (s : State) (f : OutFrame), s.hli.line = some f →
    ((∀ c, s.hli.input.head? ≠ some (.request c)) →
      (∀ r rest, s.hli.replies = r :: rest →
        exec .frameTransmissionEnd s = .next { s with
          hli := { s.hli with line := some (.reply r), replies := rest }, sent := s.sent ++ [.host (.reply r)] }) ∧
      (∀ r rest, s.hli.replies = [] → s.hli.reports = r :: rest → s.hli.lost = 0 →
        (s.hli.pause = false ∨ 64 < rest.length ∨ ∀ a, (s.aisle a).state ≠ .opened) →
        exec .frameTransmissionEnd s = .next { s with
          hli := { s.hli with line := some (.report 0 r), reports := rest,
                              pause := s.hli.pause && decide (64 < rest.length) },
          sent := s.sent ++ [.host (.report 0 r)] }) ∧
      (s.hli.replies = [] → s.hli.reports = [] →
        exec .frameTransmissionEnd s = .next { s with hli := { s.hli with line := none } })) ∧
    (∀ c r rest, (requestOf c).isSome = true → s.hli.replies = r :: rest → rest.length < 32 →
      s.hli.input = [.request c] →
      exec .frameTransmissionEnd s = exec c { s with
        hli := { s.hli with line := some (.reply r), replies := rest, input := [] },
        sent := s.sent ++ [.host (.reply r)] })

/-- R191: with a report queue of 256 entries a further report is counted as lost, up to 65,535; at the next report that leaves
the queue, REPORTS-LOST with that count takes the place at the tail, and the count is 0 again. A CRANE-STATE of a crane
that has an unsent one in the queue takes that entry's place instead: no entry is added, every other entry stays, and the
entry carries the new values with the notes of both. So does an AISLE-STATE of an aisle, with its new values. -/
def Obligations.ReportsAreCountedAndCoalesced : Prop :=
  ((∀ (h : Hli) (r : Report), 256 ≤ h.reports.length →
      (∀ x, r ≠ .craneState x) → (∀ a st k, r ≠ .aisleState a st k) →
      h.queue r = { h with lost := min (h.lost + 1) 65535 }) ∧
    (∀ (s : State) (f : OutFrame) (r : Report) (rest : List Report), s.hli.line = some f → s.hli.replies = [] →
      (∀ c, s.hli.input.head? ≠ some (.request c)) →
      s.hli.reports = r :: rest → 0 < s.hli.lost → 64 < rest.length → rest.length < 256 →
      ∃ t, exec .frameTransmissionEnd s = .next t ∧ t.hli.line = some (.report 0 r) ∧
        t.hli.reports = rest ++ [.reportsLost s.hli.lost] ∧ t.hli.lost = 0)) ∧
  (∀ (h : Hli) (x : CraneReport), h.reports.any (Report.isCraneState x.crane) = true →
     (h.queue (.craneState x)).reports.length = h.reports.length ∧ (h.queue (.craneState x)).lost = h.lost ∧
     (h.queue (.craneState x)).pause = h.pause ∧
     ∀ (i : Nat) (e : Report), h.reports[i]? = some e →
       (e.isCraneState x.crane = false → (h.queue (.craneState x)).reports[i]? = some e) ∧
       (∀ old, e = .craneState old → old.crane = x.crane →
         (h.queue (.craneState x)).reports[i]? = some (.craneState
           { x with noAnswer := x.noAnswer || old.noAnswer, unmatched := x.unmatched || old.unmatched }))) ∧
  (∀ (h : Hli) (a : AisleNo) (st : AisleState) (k : Option StartFailure),
     h.reports.any (Report.isAisleState a) = true →
     (h.queue (.aisleState a st k)).reports.length = h.reports.length ∧
     (h.queue (.aisleState a st k)).lost = h.lost ∧ (h.queue (.aisleState a st k)).pause = h.pause ∧
     ∀ (i : Nat) (e : Report), h.reports[i]? = some e →
       (e.isAisleState a = false → (h.queue (.aisleState a st k)).reports[i]? = some e) ∧
       (∀ old oldCause, e = .aisleState a old oldCause →
         (h.queue (.aisleState a st k)).reports[i]? = some (.aisleState a st k)))

/-- R189: every request that is taken, of every kind and in every state, is answered by exactly one reply, which carries the
request's kind and tag and follows every earlier reply; so does the frame that carries the reply: its kind byte is the
request's, of a frame whose kind names no request that frame's own. The request comes to an empty input buffer, or its frame
stands at the head with the kind byte and the tag that the reply has too; how a request command and the buffer go together is
the model's choice (log entry 6), and the number of each request kind is a free value (log entry 29). -/
def Obligations.EveryRequestGetsOneReply : Prop :=
  ∀ (c : Instr) (s : State) (k : ReplyKind) (tag : FrameTag), requestOf c = some (k, tag) →
    s.hli.replies.length < 32 →
    (s.hli.input = [] ∨ ∃ f rest, s.hli.input = .read f :: rest ∧ f.asks c = true ∧
      ∀ d, rest.head? ≠ some (.request d)) →
    ∃ t r, exec c s = .next t ∧ t.answers = s.answers ++ [r] ∧ t.hli.input = s.hli.input.tail ∧
      r.kind = k ∧ r.tag = tag ∧ (OutFrame.reply r).frame.tag = tag ∧
      (OutFrame.reply r).frame.kind = (match k with
        | .request q => Config.requestNumber q
        | .other b => b) ∧
      (∀ f rest, s.hli.input = .read f :: rest →
        (OutFrame.reply r).frame.kind = f.kind ∧ (OutFrame.reply r).frame.tag = f.tag)

/-- R189 and the check orders of every request: a request that its owner's checks refuse changes nothing; its frame leaves
the input buffer and one reply carries the code. How a request command and the buffer go together is the model's choice (log
entries 6 and 7): a request that finds the buffer empty and a free place in the reply queue is carried out whole as one
event; the frame at the buffer's head, once a request with its bytes comes, is taken for it; while the reply queue holds 32
entries a request waits in the buffer, and is discarded when that holds 4 (R188). -/
def Obligations.RefusedRequestsChangeNothing : Prop :=
  (∀ (c : Instr) (s : State) (k : RequestKind) (tag : FrameTag) (r : Result),
    requestOf c = some (.request k, tag) → refusalOf s c = some r → s.mayTakeRequest = true → s.lineFed →
    exec c s = .next (s.replied (plainReply k tag r))) ∧
  (∀ (c : Instr) (s : State), (requestOf c).isSome = true →
    (s.mayTakeRequest = true → exec c s = .next (s.carryOut c)) ∧
    (∀ f rest, s.hli.input = .read f :: rest → f.asks c = true → (∀ d, rest.head? ≠ some (.request d)) →
      s.hli.replies.length < 32 → exec c s = .next ((s.withInput rest).carryOut c)) ∧
    (32 ≤ s.hli.replies.length → (∀ x ∈ s.hli.input, x.asks c = false) →
      (s.hli.input.length < 4 → exec c s = .next (s.withInput (s.hli.input ++ [.request c]))) ∧
      (4 ≤ s.hli.input.length → exec c s = .next s)))

/-- R42, R55, R148, R168, R169, R175, R193: every query that its owner's checks accept answers with the state as it stands at its
event, and changes nothing but the host link. Places in a queue and in the opening order count from 1 (log entry 20). QUERY-CRANE
answers number, aisle and record, and while the link is PROVING the error count, the outstanding frame and the echo deadline.
IDENTIFY answers the part code, the revision and the capacities. A frame whose kind names no request is refused UNKNOWN-KIND
with its own kind and tag (R189). -/
def Obligations.QueriesAnswerAndChangeNothing : Prop :=
  ∀ (s : State) (tag : FrameTag), s.mayTakeRequest = true → s.lineFed →
    let tells := fun (k : RequestKind) (d : ReplyData) =>
      Host.Outcome.next (φ := Fault) (ρ := Refusal)
        (s.replied { kind := .request k, tag := tag, result := .done, data := d })
    (∀ id j, id ≠ 0 → s.job? id = some j →
      exec (.queryJob tag (some id)) s =
        tells .queryJob (.job j ((s.jtb.queues[j.queue].takeWhile (fun i => i != j.id)).length + 1))) ∧
    (∀ id r, id ≠ 0 → s.run? id = some r →
      exec (.queryRun tag (some id)) s = tells .queryRun (.run r ((s.childrenOf r.id).map Job.id))) ∧
    (∀ (q : QueryLocReq) (l : Loc), 1 ≤ q.count → q.count ≤ 64 → s.checkLoc q.first = .ok l →
      exec (.queryLocation tag (some q)) s = tells .queryLocation
        (.locations ((locsFrom (s.prof l.aisle) q.count (some l)).map (fun x => (x, s.loc x))))) ∧
    (∀ a : AisleNo, exec (.queryAisle tag (some a.val)) s = tells .queryAisle (.aisle
      { record := s.aisle a, spanFront := (s.crane (frontOf a)).span, spanRear := (s.crane (rearOf a)).span,
        pause := s.hli.pause })) ∧
    (∀ c : CraneNo, exec (.queryCrane tag (some c.val)) s = tells .queryCrane
      (if (s.crane c).role = .absent then .absentCrane .absent (s.crane c).state
       else .crane { number := c, aisle := aisleOf c, crane := s.crane c,
                     stopUnanswered := (s.crane c).stopDeadline.isSome, cycleEstimate := s.queryEstimate c,
                     proving := if (s.crane c).link = .proving then some (s.provingOf c) else none })) ∧
    (∀ a : AisleNo, exec (.queryStation tag (some a.val)) s = tells .queryStation (.station
      { infeed := (s.station a).infeed, claimant := s.claimant a, outfeed := (s.station a).outfeed,
        reserved := (s.station a).reserved, releasing := (s.station a).releasing, collector := s.stu.collector,
        rotation := s.stu.rotation,
        capacities := (s.aisle a).profile.map (fun p => (p.infeedCap, p.outfeedCap)) })) ∧
    (∀ id g, id ≠ 0 → s.group? id = some g →
      exec (.queryGroup tag (some id)) s = tells .queryGroup
        (.group g ((s.groups.takeWhile (fun x => x.id != g.id)).length + 1)
          ((s.groups.head?.map Group.id) == some g.id))) ∧
    (∀ kind : Byte, exec (.unknownKind kind tag) s =
      .next (s.replied { kind := .other kind, tag := tag, result := .unknownKind, data := .none })) ∧
    exec (.identify tag []) s = .next (s.replied
      { kind := .request .identify, tag := tag, result := .done,
        data := .identity
          { partCode := 0x0816, revision := 1, aisles := 8, cranes := 16, jobs := 1024, queues := 16, runs := 32,
            groups := 16, positions := 64, locationsPerAisle := 9216, inputBuffer := 4, replyQueue := 32,
            reportQueue := 256, hostBody := 1024, lineBody := 64 } })

/-- R194, with R4, R43, R57, R120, R149, R170, R171: what an accepted RESTART leaves. Profiles, ceilings, both schedule
copies, roles, locked flags and settled occupancies are kept; STOP goes to every crane that is not ABSENT. The RESTART comes
to an empty buffer, or its frame stands at the head; that the frames behind it and the bytes of a frame not yet complete are
kept, and that no record-free notice is left, is the model's reading (log entry 32). -/
def Obligations.RestartGivesTheRestartValues : Prop :=
  ∀ (s : State) (tag : FrameTag), s.hli.replies.length < 32 → s.ltb.wf = true →
    (s.hli.input = [] ∨ ∃ f rest, s.hli.input = .read f :: rest ∧ f.asks (.restart tag []) = true ∧
      ∀ d, rest.head? ≠ some (.request d)) →
    ∃ t, exec (.restart tag []) s = .next t ∧ t.answers = s.answers ++ [plainReply .restart tag .done] ∧
      t.hli.input = s.hli.input.tail ∧ t.hli.rx = s.hli.rx ∧ t.hli.reports = [] ∧ t.hli.lost = 0 ∧
      t.hli.pause = false ∧
      t.jtb = Jtb.reset ∧ t.rnu = Rnu.reset ∧ t.groups = [] ∧ t.stu.collector = .notReady ∧ t.stu.rotation = 0 ∧
      (∀ a, t.station a = Station.reset) ∧
      (∀ a, t.aisle a = { s.aisle a with state := .closed, start := none, resume := none, wheelPtr := 0, rot1Ptr := 0,
                                         rot2Ptr := 0, marked := false }) ∧
      (∀ c, t.crane c = { Crane.reset with
        role := (s.crane c).role,
        stopDeadline := if (s.crane c).role = .absent then (s.crane c).stopDeadline else some (s.now + 5000) }) ∧
      (∀ c, (s.crane c).role ≠ .absent → CraneOrder.stop ∈ t.ordersTo c) ∧
      (∀ l, (t.loc l).locked = (s.loc l).locked ∧ (t.loc l).occ = match (s.loc l).occ with
        | .inbound _ _ => .unknown
        | .outbound _ _ => .unknown
        | o => o) ∧
      Sent.station 0 .resync ∈ t.sent

/-! ## Jobs -/

/-- Section 11.8 with check 1 of R22 and of R137: the body of every SUBMIT-JOB whose kind, place types and group fields fit
reads back as the fields it was written from, and so does the body of every SUBMIT-RUN. -/
def Obligations.RequestBodiesReadBack : Prop :=
  (∀ b : JobBody, b.kind ≠ .clearance → b.id < 4294967296 → b.aisle < 256 → b.queue < 256 → b.urgency < 256 →
    (b.source.side < 256 ∧ b.source.bay < 256 ∧ b.source.level < 256 ∧ b.source.depth < 256) →
    (b.dest.side < 256 ∧ b.dest.bay < 256 ∧ b.dest.level < 256 ∧ b.dest.depth < 256) →
    (b.source.type, b.dest.type) = placeTypes b.kind → (b.kind ≠ .retrieve → b.group = none) →
    (∀ g k, b.group = some (g, k) → g < 65536 ∧ k < 256) →
    parseJob b.bytes = some b) ∧
  (∀ b : RunBody, b.id < 65536 → b.aisle < 256 → b.side < 256 → b.bay < 256 → b.level < 256 → b.depth < 256 →
    b.count < 256 → b.window < 256 → b.urgency < 256 → b.queue < 256 → (b.kind ≠ .retrieve → b.group = none) →
    (∀ g k, b.group = some (g, k) → g < 65536 ∧ k < 256) →
    parseRun b.bytes = some b)

/-- R22, on the fields of the body: the first of the ten checks that fails gives the code. Check 1 (MALFORMED) over
everything, then the queue and the id (OUT-OF-RANGE), a live id (DUPLICATE-ID), the aisle (OUT-OF-RANGE), its profile
(NO-PROFILE). Then the address fields of each location (OUT-OF-RANGE, R1), a full job table (TABLE-FULL), a kind whose cranes
do not reach both ends (UNREACHABLE, R88), a location that the depth rules refuse or two ends in one lane
(LOCATION-CONFLICT, R5–R7), an expected tag that differs from the recorded one (TAG-CONFLICT), and a position that is not
FREE in an existing group (GROUP-CONFLICT). A body that passes them all is accepted. -/
def Obligations.SubmitJobChecksStandInOrder : Prop :=
  ∀ (s : State) (body : List Byte),
    (parseJob body = none → s.checkJob body = .error .malformed) ∧
    (∀ b, parseJob body = some b →
      (16 ≤ b.queue ∨ b.id = 0 ∨ 2147483648 ≤ b.id → s.checkJob body = .error .outOfRange) ∧
      (b.queue < 16 → 1 ≤ b.id → b.id ≤ 2147483647 →
        ((s.job? b.id).isSome = true → s.checkJob body = .error .duplicateId) ∧
        (s.job? b.id = none →
          (8 ≤ b.aisle → s.checkJob body = .error .outOfRange) ∧
          (∀ a : AisleNo, b.aisle = a.val → (s.aisle a).profile = none → s.checkJob body = .error .noProfile) ∧
          (∀ (a : AisleNo) (p : Profile), b.aisle = a.val → (s.aisle a).profile = some p →
            let fits := fun (x : RawPlace) => x.type ≠ 0 ∨
              (x.side ≤ 1 ∧ 1 ≤ x.bay ∧ x.bay ≤ p.bays ∧ 1 ≤ x.level ∧ x.level ≤ p.levels ∧
                (x.depth = 0 ∨ (x.depth = 1 ∧ p.doubleDeep = true)))
            let loc := fun (x : RawPlace) =>
              ({ aisle := a, side := if x.side = 0 then .left else .right, bay := x.bay, level := x.level,
                 depth := if x.depth = 0 then .near else .far } : Loc)
            let reached := p.craneCount = 1 ∨
              (b.kind = .store ∧ p.separation ≤ b.dest.bay) ∨
              (b.kind = .retrieve ∧ b.source.bay + p.separation ≤ p.bays + 1) ∨
              (b.kind = .relocate ∧
                ((b.source.bay + p.separation ≤ p.bays + 1 ∧ b.dest.bay + p.separation ≤ p.bays + 1) ∨
                  (p.separation ≤ b.source.bay ∧ p.separation ≤ b.dest.bay)))
            let sourceFree := b.source.type = 0 → (∃ x, (s.loc (loc b.source)).occ = .full x) ∧
              (s.loc (loc b.source)).locked = false ∧
              (p.doubleDeep = true → (loc b.source).depth = .far →
                (s.loc (loc b.source).partner).occ = .empty ∨
                (b.kind = .retrieve ∧ ((s.loc (loc b.source).partner).occ.holder.isSome = true ∨
                  ((s.loc (loc b.source).partner).locked = false ∧
                    ∃ x, (s.loc (loc b.source).partner).occ = .full x))))
            let destFree := b.dest.type = 0 → (s.loc (loc b.dest)).occ = .empty ∧ (s.loc (loc b.dest)).locked = false ∧
              (p.doubleDeep = true → (loc b.dest).depth = .far → (s.loc (loc b.dest).partner).occ = .empty)
            let lanesDiffer := b.kind = .relocate →
              loc b.source ≠ loc b.dest ∧ loc b.source ≠ (loc b.dest).partner
            let tagAgrees := b.source.type = 0 → ∀ x, (s.loc (loc b.source)).occ = .full x →
              b.tag = 0 ∨ x = 0 ∨ b.tag = x
            let groupFree := ∀ g k, b.group = some (g, k) →
              ∃ r, s.group? g = some r ∧ 1 ≤ k ∧ k ≤ r.count ∧ r.positions[k - 1]? = some .free
            (¬ (fits b.source ∧ fits b.dest) → s.checkJob body = .error .outOfRange) ∧
            (fits b.source → fits b.dest →
              (1024 ≤ s.jtb.jobs.length → s.checkJob body = .error .tableFull) ∧
              (s.jtb.jobs.length < 1024 →
                (¬ reached → s.checkJob body = .error .unreachable) ∧
                (reached →
                  (¬ (sourceFree ∧ destFree ∧ lanesDiffer) → s.checkJob body = .error .locationConflict) ∧
                  (sourceFree → destFree → lanesDiffer →
                    (¬ tagAgrees → s.checkJob body = .error .tagConflict) ∧
                    (tagAgrees →
                      (¬ groupFree → s.checkJob body = .error .groupConflict) ∧
                      (groupFree → ∃ j d, s.checkJob body = .ok (j, d)))))))))))

/-- R8, R21, R23, R34: an admitted job is in the table with the fields of its body, the next stamp and bump count 0; it
stands behind every job of its queue; its source is OUTBOUND with the recorded tag kept, and its destination INBOUND with the
expected tag, both held by it; the reply is DONE. R6, R7, R26, in an aisle that is not OPEN, where no dispatch follows in the
event: it holds LOAD unless it is the claimant, GROUP unless the readiness conditions hold (R160), DEPTH behind a FAR
location under another job, CLEARANCE behind a NEAR location that is not EMPTY, and no other reason; without a reason it is
READY from now on, and WAITING otherwise. R24, R123, R124: a NEAR location that is FULL gives it a clearance job with its
urgency, queue and stamp, or a place in the clearance wait list when its own record was the last. -/
def Obligations.SubmitJobAdmits : Prop :=
  ∀ (s : State) (tag : FrameTag) (body : List Byte) (b : JobBody) (j : Job) (d : DepthWaits),
    s.mayTakeRequest = true → s.ltb.wf = true → parseJob body = some b → s.checkJob body = .ok (j, d) →
    let place := fun (x : RawPlace) (station : Place) =>
      if x.type = 0 then Place.loc { aisle := j.aisle, side := if x.side = 0 then .left else .right, bay := x.bay,
                                     level := x.level, depth := if x.depth = 0 then .near else .far }
      else station
    ∃ t k, exec (.submitJob tag body) s = .next t ∧ t.answers = s.answers ++ [plainReply .submitJob tag .done] ∧
      t.jtb.stamp = nextStamp s.jtb.stamp ∧ t.job? b.id = some k ∧
      (j.id = b.id ∧ j.kind = b.kind ∧ j.aisle.val = b.aisle ∧ j.source = place b.source .infeed ∧
        j.dest = some (place b.dest .outfeed) ∧ j.expTag = b.tag ∧ j.urgency = min b.urgency 7 ∧
        j.queue.val = b.queue ∧ j.group = b.group) ∧
      (k.kind = j.kind ∧ k.aisle = j.aisle ∧ k.source = j.source ∧ k.dest = j.dest ∧
        k.expTag = j.expTag ∧ k.urgency = j.urgency ∧ k.queue = j.queue ∧ k.group = j.group ∧
        k.stamp = s.jtb.stamp ∧ k.bump = 0 ∧ k.run = none ∧ k.parent = none) ∧
      (∃ rest, t.jtb.queues[j.queue] = s.jtb.queues[j.queue] ++ j.id :: rest) ∧
      (∀ l, j.dest = some (.loc l) → (t.loc l).occ = .inbound j.expTag j.id) ∧
      (∀ l x, j.source = .loc l → (s.loc l).occ = .full x → (t.loc l).occ = .outbound x j.id) ∧
      ((s.aisle j.aisle).state ≠ .opened →
        (k.waits.load = true ↔ j.kind = .store ∧ t.claimant j.aisle ≠ some j.id) ∧
        (j.group = none → k.waits.group = false) ∧
        (∀ g n, j.group = some (g.id, n) → t.group? g.id = some g →
          (k.waits.group = false ↔ t.groups.head?.map Group.id = some g.id ∧ n < g.next + g.window ∧
            ∀ q ∈ g.positions.take (n - 1), q ≠ .free ∧ (∀ r, q ≠ .spawnPending r) ∧
              ∀ h, q ≠ .known h j.aisle false)) ∧
        (k.waits.depth = true ↔ (s.prof j.aisle).doubleDeep = true ∧ ∃ l, j.dest = some (.loc l) ∧ l.depth = .near ∧
          (s.loc l.partner).occ.holder.isSome = true) ∧
        (k.waits.clearance = true ↔ (s.prof j.aisle).doubleDeep = true ∧ ∃ l, j.source = .loc l ∧ l.depth = .far ∧
          (s.loc l.partner).occ ≠ .empty) ∧
        k.waits.noPlace = false ∧ k.waits.stationBlocked = false ∧
        (k.waits = {} → k.state = .ready ∧ k.readySince = some s.now) ∧
        (k.waits ≠ {} → k.state = .waiting ∧ k.readySince = none) ∧
        (∀ l x, (s.prof j.aisle).doubleDeep = true → j.source = .loc l → l.depth = .far →
          (s.loc l.partner).occ = .full x → (∀ y ∈ s.jtb.jobs, y.parent ≠ some j.id) →
          (s.jtb.jobs.length ≤ 1022 → ∃ y ∈ t.jtb.jobs, y.kind = .clearance ∧ y.parent = some j.id ∧
            y.aisle = j.aisle ∧ y.source = .loc l.partner ∧ y.dest = none ∧ y.expTag = x ∧ y.urgency = j.urgency ∧
            y.queue = j.queue ∧ y.stamp = k.stamp ∧ y.bump = 3 ∧ y.state = .ready ∧
            (t.loc l.partner).occ = .outbound x y.id) ∧
          (s.jtb.jobs.length = 1023 → j.id ∉ s.jtb.clearWait →
            t.jtb.clearWait = s.jtb.clearWait ++ [j.id] ∧ (t.loc l.partner).occ = .full x)))

/-- R31: an accepted SET-URGENCY leaves the job with the urgency given, a value above 7 clamped to 7. -/
def Obligations.SetUrgencyWritesTheClampedValue : Prop :=
  ∀ (s : State) (tag : FrameTag) (r : UrgencyReq) (j : Job), s.mayTakeRequest = true → 1 ≤ r.id → r.id ≤ 2147483647 →
    s.job? r.id = some j → (j.state = .waiting ∨ j.state = .ready) →
    ∃ t, exec (.setUrgency tag (some r)) s = .next t ∧
      t.answers = s.answers ++ [plainReply .setUrgency tag .done] ∧
      (t.job? r.id).map Job.urgency = some (min r.urgency 7)

/-- R35–R40: what CANCEL-JOB does by the job's state. A job in WAITING, READY or STRANDED, or in LEAD with its crane in HOLD,
ends CANCELLED in the event, with its end report and its cause, and its record is freed; the locations it holds become EMPTY
and FULL with the recorded tag (R10), or UNKNOWN when it was STRANDED (R12), unless another job takes one within the event. A
job in LEAD whose crane has no outstanding order and is not in HOLD is asked for by ABORT, with nothing else changed. A job
in PROMISED, or in LEAD under an outstanding order, is refused BUSY, and so is one in FETCH under an outstanding ABORT (R38;
log entry 42). Any other past its LEAD is refused TOO-LATE. A refusal changes nothing. -/
def Obligations.CancelJobByState : Prop :=
  ∀ (s : State) (tag : FrameTag) (id : Nat) (j : Job), s.mayTakeRequest = true → s.lineFed → 1 ≤ id →
    id ≤ 2147483647 → 2147483648 ≤ s.jtb.internalId → s.job? id = some j →
    ((j.state = .waiting ∨ j.state = .ready ∨ (∃ ph, j.state = .stranded ph) ∨
        (j.state = .lead ∧ ∃ c, j.crane = some c ∧ (s.crane c).state = .hold)) →
      ∃ t, exec (.cancelJob tag (some id)) s = .next t ∧
        t.answers = s.answers ++ [plainReply .cancelJob tag .cancelled] ∧ t.job? id = none ∧
        (s.hli.reports.length ≤ 240 → ∃ e, Report.jobEnded e ∈ t.told ∧ e.id = id ∧ e.outcome = .cancelled ∧
          e.cause = some (if j.state.phase?.isSome then .strandedCancel else .host)) ∧
        (s.ltb.wf = true → ∀ l ∈ j.locs, (s.loc l).occ.holder = some id →
          ((∃ ph, j.state = .stranded ph) → (t.loc l).occ = .unknown) ∧
          ((∀ ph, j.state ≠ .stranded ph) →
            (∀ x, (s.loc l).occ = .inbound x id →
              (t.loc l).occ = .empty ∨ ∃ y h, (t.loc l).occ = .inbound y h ∧ h ≠ id) ∧
            (∀ x, (s.loc l).occ = .outbound x id →
              (t.loc l).occ = .full x ∨ ∃ h, (t.loc l).occ = .outbound x h ∧ h ≠ id)))) ∧
    (∀ c, j.state = .lead → j.crane = some c → (s.crane c).state ≠ .hold → (s.crane c).order = .none →
      exec (.cancelJob tag (some id)) s = .next (State.replied
        ((((s.mapJob id (fun x => { x with cancelReq := some .host })).mapCrane c
          (fun x => { x with order := .abort })).sendOut (.crane c 0 .abort)))
        (plainReply .cancelJob tag .pending))) ∧
    (∀ c, j.state = .lead → j.crane = some c → (s.crane c).state ≠ .hold → (s.crane c).order ≠ .none →
      exec (.cancelJob tag (some id)) s = .next (s.replied (plainReply .cancelJob tag .busy))) ∧
    (∀ c, j.state = .fetch → j.crane = some c → (s.crane c).order = .abort →
      exec (.cancelJob tag (some id)) s = .next (s.replied (plainReply .cancelJob tag .busy))) ∧
    (j.state = .promised →
      exec (.cancelJob tag (some id)) s = .next (s.replied (plainReply .cancelJob tag .busy))) ∧
    (((j.state = .fetch ∧ ∀ c, j.crane = some c → (s.crane c).order ≠ .abort) ∨ j.state = .haul ∨
        j.state = .place) →
      exec (.cancelJob tag (some id)) s = .next (s.replied (plainReply .cancelJob tag .tooLate)))

/-- R32: an aging expiry, taken at its time, lowers the urgency of the READY job by 1; an expiry of a job that does not age
(urgency 0, 1 or 7, aging step 0, or another state) changes nothing (log entry 2). -/
def Obligations.AgingLowersTheUrgency : Prop :=
  ∀ (s : State) (id : JobId) (j : Job), s.job? id = some j →
    (∀ t0, j.state = .ready → 2 ≤ j.urgency → j.urgency ≤ 6 → (s.prof j.aisle).agingStep ≠ 0 → j.readySince = some t0 →
      ∃ t, exec (.agingExpiry id) s = .next t ∧ t.now = max s.now (t0 + 1000 * (s.prof j.aisle).agingStep) ∧
        (t.job? id).map Job.urgency = some (j.urgency - 1)) ∧
    ((j.state ≠ .ready ∨ j.urgency < 2 ∨ 6 < j.urgency ∨ (s.prof j.aisle).agingStep = 0) →
      exec (.agingExpiry id) s = .next s)

/-- R21: of two different stamps exactly one is older, unless they lie 2,147,483,648 apart, and then neither is; a stamp is
older than its successor, also where the counter turns from 4,294,967,295 to 1. -/
def Obligations.StampsAreOrderedByAge : Prop :=
  (∀ a b : Nat, a < 4294967296 → b < 4294967296 → a ≠ b → a + 2147483648 ≠ b → b + 2147483648 ≠ a →
    (older a b = true ↔ older b a = false)) ∧
  (∀ a b : Nat, a < 4294967296 → b = a + 2147483648 → b < 4294967296 → older a b = false ∧ older b a = false) ∧
  (∀ a : Nat, older a a = false) ∧
  (∀ a : Nat, 1 ≤ a → a ≤ 4294967295 → older a (nextStamp a) = true ∧ 1 ≤ nextStamp a ∧ nextStamp a ≤ 4294967295)

/-! ## Travel times -/

/-- R46: the three cases of the axis time: zero distance; a distance D of at least the ramp distance Dr = v² ÷ a rounded
down, where the time is (1,000 × D × a + 1,000 × v²) ÷ (v × a) rounded up; a shorter one, where it is the smallest t with
t × t at least Q = 4,000,000 × D ÷ a rounded up, which is at least the exact time and less than that plus 1 ms. At Dr the
time is 2,000 × v ÷ a rounded up when a divides v², and otherwise less than 5 ms below. The time does not decrease as the
distance grows. The intermediate values have the bounds of R46's table. The x axis is computed with the x fields of the
profile, and the y axis with the y fields. -/
def Obligations.AxisTimesRoundUpOnce : Prop :=
  (∀ d v a : Nat, 200 ≤ v → v ≤ 6000 → 100 ≤ a → a ≤ 2000 →
    axisTime 0 v a = 0 ∧
    (1 ≤ d → v * v / a ≤ d →
      1000 * d * a + 1000 * (v * v) ≤ axisTime d v a * (v * a) ∧
      ∀ t, 1000 * d * a + 1000 * (v * v) ≤ t * (v * a) → axisTime d v a ≤ t) ∧
    (1 ≤ d → d < v * v / a →
      ∃ q, (4000000 * d ≤ q * a ∧ ∀ m, 4000000 * d ≤ m * a → q ≤ m) ∧
        q ≤ axisTime d v a * axisTime d v a ∧ (∀ t, q ≤ t * t → axisTime d v a ≤ t) ∧
        4000000 * d < 1440000000000 ∧ q < 14400000000) ∧
    (1 ≤ d → d < v * v / a →
      4000000 * d ≤ axisTime d v a * axisTime d v a * a ∧
      (axisTime d v a - 1) * (axisTime d v a - 1) * a < 4000000 * d) ∧
    (a ∣ v * v → 2000 * v ≤ axisTime (v * v / a) v a * a ∧ ∀ t, 2000 * v ≤ t * a → axisTime (v * v / a) v a ≤ t) ∧
    2000 * (v * v) < axisTime (v * v / a) v a * (v * a) + 5 * (v * a) ∧
    (∀ d', d ≤ d' → axisTime d v a ≤ axisTime d' v a) ∧
    (d ≤ 388000 → 1000 * d * a ≤ 776000000000 ∧ 1000 * (v * v) ≤ 36000000000 ∧ v * a ≤ 12000000 ∧
      (500 ≤ v → axisTime d v a ≤ 781000))) ∧
  (∀ (p : Profile) (x y : Point), moveTime p x y =
    max (axisTime ((max x.1 y.1 - min x.1 y.1) * p.bayPitch) p.vx p.ax)
      (axisTime ((max x.2 y.2 - min x.2 y.2) * p.levelPitch) p.vy p.ay))

/-- R48: the handling time of each kind of place, under a profile whose FAR fork time SET-PROFILE has clamped up to the
NEAR one: the same for LEFT and RIGHT, and never less for FAR than for NEAR. -/
def Obligations.HandlingTimesFollowThePlace : Prop :=
  ∀ (r : RawProfile) (p : Profile), p = clampProfile r →
    (∀ l : Loc, l.depth = .near → handling p (.loc l) = r.forkNear) ∧
    (∀ l : Loc, l.depth = .far → handling p (.loc l) = if r.forkFar < r.forkNear then r.forkNear else r.forkFar) ∧
    handling p .outfeed = r.forkNear ∧ handling p .infeed = r.forkNear ∧
    (∀ x y : Loc, x.depth = y.depth → handling p (.loc x) = handling p (.loc y)) ∧
    (∀ x y : Loc, x.depth = .near → handling p (.loc x) ≤ handling p (.loc y))

/-- R47, R51, R52: no estimate exceeds 600,000 ms, an estimate from an unknown position is 600,000 ms, and the motion limit
of an estimate is the smallest whole number at or above estimate × (100 + percent) ÷ 100, plus the margin, returned as
900,000 when it lies above that. -/
def Obligations.EstimatesAndLimitsAreCapped : Prop :=
  ∀ (p : Profile) (pos : Option Point) (x y z : Place) (r : Role) (e : Nat),
    (leadEstimate p pos x ≤ 600000 ∧ haulEstimate p x y ≤ 600000 ∧ cycleEstimate p pos x y ≤ 600000 ∧
      carryEstimate p pos y ≤ 600000 ∧ placeAgainEstimate p z y ≤ 600000 ∧ referenceEstimate p r pos ≤ 600000) ∧
    (leadEstimate p none x = 600000 ∧ carryEstimate p none y = 600000 ∧ cycleEstimate p none x y = 600000) ∧
    (∃ n, e * (100 + p.overrunPercent) ≤ 100 * n ∧ (∀ m, e * (100 + p.overrunPercent) ≤ 100 * m → n ≤ m) ∧
      (n + p.overrunMargin ≤ 900000 → motionLimit p e = n + p.overrunMargin) ∧
      (900000 < n + p.overrunMargin → motionLimit p e = 900000))

/-! ## Locations -/

/-- R18: LOCK-LOCATION sets the locked flag of its location and UNLOCK-LOCATION clears it, whatever the flag and the holder
were; no other location's flag is changed. -/
def Obligations.LockAndUnlockWriteOneFlag : Prop :=
  ∀ (s : State) (tag : FrameTag) (raw : RawLoc) (l : Loc), s.mayTakeRequest = true → s.ltb.wf = true →
    s.checkLoc raw = .ok l →
    (∃ t, exec (.lockLocation tag (some raw)) s = .next t ∧
      t.answers = s.answers ++ [plainReply .lockLocation tag .done] ∧ (t.loc l).locked = true ∧
      ∀ x, x ≠ l → (t.loc x).locked = (s.loc x).locked) ∧
    (∃ t, exec (.unlockLocation tag (some raw)) s = .next t ∧
      t.answers = s.answers ++ [plainReply .unlockLocation tag .done] ∧ (t.loc l).locked = false ∧
      ∀ x, x ≠ l → (t.loc x).locked = (s.loc x).locked)

/-- R17: SET-LOCATION of a locked location that has no holder, and is no NEAR location whose FAR is INBOUND or OUTBOUND under a
job past READY, writes the occupancy with its tag; the location stays locked, and no other flag is changed. R16: an accepted
LOAD-LOCATIONS, while no job is live, writes its entries in message order, a later entry for the same address over an
earlier one, and changes nothing but the table and the host link. -/
def Obligations.HostWritesReachTheTable : Prop :=
  (∀ (s : State) (tag : FrameTag) (r : SetLocReq) (l : Loc) (o : Occ), s.mayTakeRequest = true → s.ltb.wf = true →
    s.checkLoc r.loc = .ok l → (s.loc l).locked = true → (s.loc l).occ.holder = none →
    (l.depth = .near → (∀ x h, (s.loc l.partner).occ ≠ .inbound x h) ∧
      ∀ x h j, (s.loc l.partner).occ = .outbound x h → s.job? h = some j → j.state = .waiting ∨ j.state = .ready) →
    ((r.occ = some .empty ∧ o = .empty) ∨ (r.occ = some .full ∧ o = .full r.tag) ∨
      (r.occ = some .unknown ∧ o = .unknown)) →
    ∃ t, exec (.setLocation tag (some r)) s = .next t ∧
      t.answers = s.answers ++ [plainReply .setLocation tag .done] ∧ t.loc l = { occ := o, locked := true } ∧
      ∀ x, x ≠ l → (t.loc x).locked = (s.loc x).locked) ∧
  (∀ (s : State) (tag : FrameTag) (r : LoadReq) (xs : List (Loc × LocRec)), s.mayTakeRequest = true → s.lineFed →
    s.ltb.wf = true → s.jtb.jobs = [] → s.checkLoad r = .ok xs →
    ∃ ltb, exec (.loadLocations tag r) s = .next
        (State.replied { s with ltb := ltb } (plainReply .loadLocations tag .done)) ∧
      ∀ l, ltb.get l = (((xs.filter (fun x => x.1 = l)).getLast?).map Prod.snd).getD (s.loc l))

/-! ## Aisles -/

/-- R3, R55, R172, R173: an accepted SET-PROFILE writes the profile with its clamped values, every other field as given, gives
the aisle's two cranes their roles, and makes every location of the aisle UNKNOWN and unlocked unless the aisle had a profile
of the same geometry; locations of other aisles, jobs, runs, groups and stations are not changed. -/
def Obligations.SetProfileWritesTheProfile : Prop :=
  ∀ (s : State) (tag : FrameTag) (r : ProfileReq) (a : AisleNo) (p : Profile), s.mayTakeRequest = true → s.lineFed →
    s.checkProfile (some r) = .ok (a, p) →
    ∃ t, exec (.setProfile tag (some r)) s = .next t ∧
      t.answers = s.answers ++ [plainReply .setProfile tag .done] ∧ (t.aisle a) = { s.aisle a with profile := some p } ∧
      (∀ b, b ≠ a → t.aisle b = s.aisle b) ∧
      p.forkFar = max r.profile.forkFar r.profile.forkNear ∧ p.overrunPercent = min r.profile.overrunPercent 100 ∧
      p.overrunMargin = min r.profile.overrunMargin 60000 ∧ p.refInterval = max 50 (min r.profile.refInterval 5000) ∧
      p.driftLimit = min r.profile.driftLimit 50 ∧ p.parkDelay = min r.profile.parkDelay 600 ∧
      p.agingStep = (if r.profile.agingStep = 0 then 0 else max 10 (min r.profile.agingStep 3600)) ∧
      p.bays = r.profile.bays ∧ p.levels = r.profile.levels ∧ p.craneCount = r.profile.craneCount ∧
      some p.doubleDeep = r.profile.doubleDeep ∧ p.bayPitch = r.profile.bayPitch ∧
      p.levelPitch = r.profile.levelPitch ∧ p.vx = r.profile.vx ∧ p.ax = r.profile.ax ∧ p.vy = r.profile.vy ∧
      p.ay = r.profile.ay ∧ p.forkNear = r.profile.forkNear ∧ p.separation = r.profile.separation ∧
      p.parkFront = r.profile.parkFront ∧ p.parkRear = r.profile.parkRear ∧ p.infeedCap = r.profile.infeedCap ∧
      p.outfeedCap = r.profile.outfeedCap ∧ p.provingAllowance = r.profile.provingAllowance ∧
      (∀ c, aisleOf c = a → (t.crane c).role = roleOf p.craneCount c) ∧
      (∀ c, aisleOf c ≠ a → t.crane c = s.crane c) ∧
      (∀ old, (s.aisle a).profile = some old → old.bays = p.bays → old.levels = p.levels →
        old.doubleDeep = p.doubleDeep → old.craneCount = p.craneCount → t.ltb = s.ltb) ∧
      (((s.aisle a).profile = none ∨ ∃ old, (s.aisle a).profile = some old ∧
          (old.bays ≠ p.bays ∨ old.levels ≠ p.levels ∨ old.doubleDeep ≠ p.doubleDeep ∨
            old.craneCount ≠ p.craneCount)) →
        ∀ l, t.loc l = if l.aisle = a then { occ := .unknown, locked := false } else s.loc l) ∧
      t.jtb = s.jtb ∧ t.rnu = s.rnu ∧ t.groups = s.groups ∧ t.stu = s.stu

/-- R174, R175: an accepted OPEN-AISLE puts the aisle into STARTING with a FULL start in phase PROVING; the link of each
present crane is PROVING, and PROBE 0 is sent, with an echo deadline of 200 ms, to each that has no unanswered STOP. -/
def Obligations.OpenAisleStartsProving : Prop :=
  ∀ (s : State) (tag : FrameTag) (a : AisleNo) (p : Profile), s.mayTakeRequest = true →
    (s.aisle a).profile = some p → (s.aisle a).state = .closed →
    ∃ t, exec (.openAisle tag (some a.val)) s = .next t ∧
      t.answers = s.answers ++ [plainReply .openAisle tag .done] ∧
      t.aisle a = { s.aisle a with
        state := .starting, resume := none,
        start := some { kind := .full, phase := .proving, runsFront := 0, runsRear := 0 } } ∧
      (∀ b, b ≠ a → t.aisle b = s.aisle b) ∧
      (∀ c, aisleOf c = a → (s.crane c).role ≠ .absent →
        t.crane c = { s.crane c with link := .proving } ∧
        ((s.crane c).stopDeadline = none →
          t.provingOf c = { errors := 0, frame := some 0, echoDeadline := some (s.now + 200) } ∧
          CraneOrder.probe 0 (probeBody 0) ∈ t.ordersTo c)) ∧
      (∀ c, aisleOf c ≠ a → t.crane c = s.crane c) ∧ t.ltb = s.ltb ∧ t.jtb = s.jtb ∧ t.stu = s.stu

/-- R180, R181, R119: CLOSE-AISLE of an OPEN aisle leaves it CLOSING, or CLOSED when every present crane is IDLE, or FAULTED
without a job, and then each is OFFLINE with link UNPROVEN; a marked schedule copy is adopted. -/
def Obligations.CloseAisleClosesWhenTheCranesRest : Prop :=
  ∀ (s : State) (tag : FrameTag) (a : AisleNo), s.mayTakeRequest = true → (s.aisle a).state = .opened →
    ∃ t, exec (.closeAisle tag (some a.val)) s = .next t ∧
      t.answers = s.answers ++ [plainReply .closeAisle tag .done] ∧
      (t.aisle a).marked = false ∧
      ((s.aisle a).marked = true → (t.aisle a).active = (s.aisle a).pendingCopy) ∧
      ((∀ c, aisleOf c = a → (s.crane c).role ≠ .absent →
          (s.crane c).state = .idle ∨ ((s.crane c).state = .faulted ∧ (s.crane c).job = none)) →
        (t.aisle a).state = .closed ∧ ∀ c, aisleOf c = a → (s.crane c).role ≠ .absent →
          (t.crane c).state = .offline ∧ (t.crane c).link = .unproven ∧ (t.crane c).span = none ∧
          (t.crane c).pos = none) ∧
      ((∃ c, aisleOf c = a ∧ (s.crane c).role ≠ .absent ∧ (s.crane c).state ≠ .idle ∧
          ((s.crane c).state ≠ .faulted ∨ (s.crane c).job ≠ none)) →
        (t.aisle a).state = .closing ∧ ∀ c, aisleOf c = a → t.crane c = s.crane c)

/-- R182, R183: a lockout of an aisle in OPEN, CLOSING or STARTING stops each present crane that is not OFFLINE: STOPPED,
with STOP sent, its answer timed at 5,000 ms, and no position, span, claim, order, promise or motion deadline. A link whose
crane is OFFLINE becomes UNPROVEN. The resume mode is the start's kind in STARTING, and RELEASE otherwise. R28, R38: of the
jobs of the stopped cranes, one in FETCH, HAUL or PLACE is STRANDED in that phase under its crane, one STRANDED before keeps
its phase, one in LEAD gives the crane up and is unstarted again, or ends CANCELLED under its cancel request, and a promised
one is unstarted again. -/
def Obligations.LockoutStopsTheCranes : Prop :=
  ∀ (s : State) (tag : FrameTag) (a : AisleNo), s.mayTakeRequest = true →
    (s.aisle a).state ≠ .closed → (s.aisle a).state ≠ .lockout →
    ∃ t, exec (.lockoutAisle tag (some a.val)) s = .next t ∧
      t.answers = s.answers ++ [plainReply .lockoutAisle tag .done] ∧
      (t.aisle a).state = .lockout ∧ (t.aisle a).start = none ∧
      (∀ st, (s.aisle a).state = .starting → (s.aisle a).start = some st → (t.aisle a).resume = some st.kind) ∧
      ((s.aisle a).state ≠ .starting → (t.aisle a).resume = some .release) ∧
      (∀ c, aisleOf c = a → (s.crane c).role ≠ .absent → (s.crane c).state ≠ .offline →
        (t.crane c).state = .stopped ∧ (t.crane c).stopDeadline = some (s.now + 5000) ∧
        (t.crane c).pos = none ∧ (t.crane c).span = none ∧ t.claimOf c = none ∧ (t.crane c).order = .none ∧
        (t.crane c).promised = none ∧ (t.crane c).motionDeadline = none ∧ CraneOrder.stop ∈ t.ordersTo c ∧
        (∀ j, s.craneJob? c = some j → j.aisle = a → (∀ e, e ≠ c → (s.crane e).job ≠ some j.id) →
          (∀ e, (s.crane e).promised ≠ some j.id) →
          (∀ ph, (ph, j.state) ∈ [(Phase.fetch, JobState.fetch), (.haul, .haul), (.place, .place)] →
            (t.job? j.id).map Job.state = some (.stranded ph) ∧ (t.crane c).job = some j.id) ∧
          (j.state = .lead → j.cancelReq = none → (t.crane c).job = none ∧
            ∃ k, t.job? j.id = some k ∧ k.state.unstarted = true ∧ k.crane = none) ∧
          (∀ ph, j.state = .stranded ph →
            (t.job? j.id).map Job.state = some (.stranded ph) ∧ (t.crane c).job = some j.id) ∧
          (∀ b, j.state = .lead → j.cancelReq = some b → (t.crane c).job = none ∧
            (j.id < 2147483648 → 2147483648 ≤ s.jtb.internalId → t.job? j.id = none) ∧
            (s.hli.reports.length ≤ 200 → ∃ e, Report.jobEnded e ∈ t.told ∧ e.id = j.id ∧
              e.outcome = .cancelled ∧ (b = .host → e.cause = some .host) ∧
              (b = .groupCancelled → e.cause = some .groupCancelled)))) ∧
        (∀ k, (s.crane c).promised = some k.id → s.job? k.id = some k → k.aisle = a →
          (∀ e, (s.crane e).job ≠ some k.id) →
          ∃ x, t.job? k.id = some x ∧ x.state.unstarted = true ∧ x.crane = none)) ∧
      (∀ c, aisleOf c = a → (s.crane c).role ≠ .absent → (s.crane c).state = .offline →
        (t.crane c).state = .offline ∧ (t.crane c).link = .unproven)

/-- R184: RELEASE-AISLE with resume mode RELEASE puts the aisle into STARTING, phase REFERENCING, and sends REFERENCE to each
present crane without an unanswered STOP; with resume mode FULL the start begins anew with the proving of every link. -/
def Obligations.ReleaseRestartsTheAisle : Prop :=
  ∀ (s : State) (tag : FrameTag) (a : AisleNo), s.mayTakeRequest = true → (s.aisle a).state = .lockout →
    ((s.aisle a).resume = some .release →
      ∃ t, exec (.releaseAisle tag (some a.val)) s = .next t ∧
        t.answers = s.answers ++ [plainReply .releaseAisle tag .done] ∧ (t.aisle a).state = .starting ∧
        (t.aisle a).start = some { kind := .release, phase := .referencing, runsFront := 0, runsRear := 0 } ∧
        ∀ c, aisleOf c = a → (s.crane c).role ≠ .absent → (s.crane c).stopDeadline = none →
          (t.crane c).state = .reference ∧ CraneOrder.reference ∈ t.ordersTo c) ∧
    ((s.aisle a).resume = some .full →
      ∃ t, exec (.releaseAisle tag (some a.val)) s = .next t ∧
        t.answers = s.answers ++ [plainReply .releaseAisle tag .done] ∧ (t.aisle a).state = .starting ∧
        (t.aisle a).start = some { kind := .full, phase := .proving, runsFront := 0, runsRear := 0 } ∧
        ∀ c, aisleOf c = a → (s.crane c).role ≠ .absent → (t.crane c).link = .proving)

/-- R112, R118, R119: SET-CEILING writes the aisle's ceiling, clamped to 7, and no other. COMMIT-SCHEDULE in an OPEN aisle
with a wheel marks the pending copy and changes no list; in every other case it is adopted at once. R117: an accepted
EDIT-SCHEDULE writes its entries into one list of the pending copy from its first index on, and the count it gives, clamped
to the list's size; every other entry, list, aisle and block stays. R108, R110: the job an entry gives a crane is, of the
eligible jobs of its queue that its filters pass, the first by urgency, then lead estimate, then stamp. R109: the choice of a
decision takes the wheel entry at the pointer, then the priority list, then each rotation list from the entry behind its
pointer on, and the first entry that gives a job. R111: its grant moves the wheel pointer on, and a rotation pointer to the
entry that granted. -/
def Obligations.CeilingAndScheduleAreWritten : Prop :=
  (∀ (s : State) (tag : FrameTag) (a : AisleNo), s.mayTakeRequest = true →
    (∀ v, ∃ t, exec (.setCeiling tag (some { aisle := a.val, value := v })) s = .next t ∧
      t.answers = s.answers ++ [plainReply .setCeiling tag .done] ∧ (t.aisle a).ceiling = min v 7 ∧
      ∀ b, b ≠ a → (t.aisle b).ceiling = (s.aisle b).ceiling) ∧
    (∃ t, exec (.commitSchedule tag (some a.val)) s = .next t ∧
      t.answers = s.answers ++ [plainReply .commitSchedule tag .done] ∧
      ((s.aisle a).state = .opened → 0 < (s.aisle a).active.wheel.count →
        t.aisle a = { s.aisle a with marked := true }) ∧
      (((s.aisle a).state ≠ .opened ∨ (s.aisle a).active.wheel.count = 0) →
        (t.aisle a).active = (s.aisle a).pendingCopy ∧ (t.aisle a).pendingCopy = (s.aisle a).pendingCopy ∧
        (t.aisle a).marked = false))) ∧
  (∀ (s : State) (tag : FrameTag) (r : EditReq) (a : AisleNo) (l : ListName) (es : List Entry),
    s.mayTakeRequest = true → s.lineFed → checkEdit (some r) = .ok (a, l, r, es) →
    (exec (.editSchedule tag (some r)) s = .next (State.replied
      (s.mapAisle a (fun x => { x with pendingCopy := x.pendingCopy.edited l r.first es r.count }))
      (plainReply .editSchedule tag .done))) ∧
    (∀ (n : Nat) (x : SchedList n) (i : Nat), i < n →
      (x.edited r.first es r.count).entries[i]? =
        if r.first ≤ i ∧ i < r.first + es.length then es[i - r.first]? else x.entries[i]?) ∧
    (∀ (n : Nat) (x : SchedList n), (x.edited r.first es r.count).count =
      match r.count with
      | some k => min k n
      | none => x.count)) ∧
  (∀ (s : State) (c : CraneNo) (e : Entry),
    let est := fun (j : Job) => leadEstimate (s.craneProf c) (s.crane c).pos j.source
    let offered := fun (j : Job) => admitsRole e.crane (s.crane c).role = true ∧
      (∃ q, e.queue = some q ∧ j ∈ s.queueJobs q) ∧ passesKind e.kind j.kind = true ∧ s.eligible c j = true
    (∀ j ∈ s.jtb.jobs, j.stamp ≤ 2147483647) →
    (s.entryJob c e = none → ∀ j, ¬ offered j) ∧
    (∀ j, s.entryJob c e = some j → offered j ∧ ∀ x, offered x →
      j.urgency < x.urgency ∨ (j.urgency = x.urgency ∧ (est j < est x ∨ (est j = est x ∧ j.stamp ≤ x.stamp))))) ∧
  (∀ (s : State) (c : CraneNo),
    let a := s.aisle (aisleOf c)
    let gives := fun (n : Nat) (l : SchedList n) (i : Nat) (j : Job) =>
      i < l.count ∧ ∃ e, l.entries[i]? = some e ∧ s.entryJob c e = some j
    let before := fun (ptr k i : Nat) => if ptr < i then ptr < k ∧ k < i else ptr < k ∨ k < i
    let noWheel := ∀ j, ¬ gives 64 a.active.wheel a.wheelPtr j
    let noPriority := ∀ i j, ¬ gives 16 a.active.priority i j
    let noFirst := ∀ i j, ¬ gives 16 a.active.rot1 i j
    (s.choose c = none → noWheel ∧ noPriority ∧ noFirst ∧ ∀ i j, ¬ gives 16 a.active.rot2 i j) ∧
    (∀ j, s.choose c = some (.wheel, j) → gives 64 a.active.wheel a.wheelPtr j) ∧
    (∀ j, s.choose c = some (.priority, j) → noWheel ∧ ∃ i, gives 16 a.active.priority i j ∧
      ∀ k x, k < i → ¬ gives 16 a.active.priority k x) ∧
    (∀ i j, s.choose c = some (.first i, j) → noWheel ∧ noPriority ∧ gives 16 a.active.rot1 i j ∧
      ∀ k x, before a.rot1Ptr k i → ¬ gives 16 a.active.rot1 k x) ∧
    (∀ i j, s.choose c = some (.second i, j) → noWheel ∧ noPriority ∧ noFirst ∧ gives 16 a.active.rot2 i j ∧
      ∀ k x, before a.rot2Ptr k i → ¬ gives 16 a.active.rot2 k x)) ∧
  (∀ (w : Work) (c : CraneNo) (st : Stage) (j : Job), w.st.available c = true → w.st.choose c = some (st, j) →
    ((w.st.aisle (aisleOf c)).marked = false ∨ (w.st.aisle (aisleOf c)).wheelPtr ≠ 0) →
    let a := w.st.aisle (aisleOf c)
    let t := (w.decide c).st
    (t.crane c).job = some j.id ∧ ((t.crane c).state = .lead ∨ (t.crane c).state = .hold) ∧
    (t.job? j.id).map (fun k => (k.state, k.crane)) = some (.lead, some c) ∧
    t.aisle (aisleOf c) = { a with
      wheelPtr := if a.active.wheel.count = 0 then 0 else (a.wheelPtr + 1) % a.active.wheel.count,
      rot1Ptr := match st with
        | .first i => i
        | _ => a.rot1Ptr,
      rot2Ptr := match st with
        | .second i => i
        | _ => a.rot2Ptr })

/-! ## Cranes -/

/-- R80, R56, R90: CLEAR-CRANE of a FAULTED crane whose STOP is answered sends REFERENCE: the crane is in REFERENCE without a
fault cause and with the job it has, its motion deadline runs for the reference estimate, and CRANE-STATE is told. With its
position known its span is extended to its reference bay, bay 0 or Bmax + 1; without one no span is written. -/
def Obligations.ClearCraneSendsReference : Prop :=
  ∀ (s : State) (tag : FrameTag) (c : CraneNo), s.mayTakeRequest = true → (s.crane c).state = .faulted →
    (s.crane c).stopDeadline = none →
    let bay := if (s.crane c).role = .rear then (s.craneProf c).bays + 1 else 0
    ∃ t, exec (.clearCrane tag (some c.val)) s = .next t ∧
      t.answers = s.answers ++ [plainReply .clearCrane tag .done] ∧ (t.crane c).state = .reference ∧
      (t.crane c).fault = none ∧ (t.crane c).carryPending = false ∧ (t.crane c).job = (s.crane c).job ∧
      CraneOrder.reference ∈ t.ordersTo c ∧
      (t.crane c).motionDeadline = some (s.now + motionLimit (s.craneProf c)
        (referenceEstimate (s.craneProf c) (s.crane c).role (s.crane c).pos)) ∧
      (∀ x, (s.crane c).pos.isSome = true → (s.crane c).span = some x →
        (t.crane c).span = some (min x.1 bay, max x.2 bay)) ∧
      ((s.crane c).pos = none ∨ (s.crane c).span = none → (t.crane c).span = (s.crane c).span) ∧
      (s.hli.reports.length ≤ 240 →
        ∃ r, Report.craneState r ∈ t.told ∧ r.crane = c ∧ r.state = .reference ∧ r.fault = none)

/-- R63, R65: AT-SOURCE ends the lead, AT-DESTINATION the haul, or the travel of a PLACE-AGAIN: the crane's next state, its
standing point, its deadline and its job's state. The job is served by no other crane. -/
def Obligations.TravelReportsAdvanceTheCycle : Prop :=
  ∀ (s : State) (c : CraneNo) (j : Job) (d : Place), (s.crane c).role ≠ .absent → s.craneJob? c = some j →
    j.dest = some d → (∀ e, e ≠ c → (s.crane e).job ≠ some j.id) →
    ((s.crane c).state = .lead → ∃ t, exec (.atSource c) s = .next t ∧ (t.crane c).state = .fetch ∧
      (t.crane c).standing = some j.source ∧
      (t.crane c).motionDeadline =
        some (s.now + motionLimit (s.craneProf c) (handling (s.craneProf c) j.source)) ∧
      (t.crane c).span = some (min (j.source.bay (s.craneProf c)) (d.bay (s.craneProf c)),
        max (j.source.bay (s.craneProf c)) (d.bay (s.craneProf c))) ∧
      (t.crane c).order = (s.crane c).order ∧ (t.crane c).job = some j.id ∧
      (t.job? j.id).map Job.state = some .fetch) ∧
    ((s.crane c).state = .haul → ∃ t, exec (.atDestination c) s = .next t ∧ (t.crane c).state = .place ∧
      (t.crane c).leg = some .atPlace ∧ (t.crane c).standing = some d ∧
      (t.crane c).motionDeadline = some (s.now + motionLimit (s.craneProf c) (handling (s.craneProf c) d)) ∧
      (t.crane c).span = (s.crane c).span ∧ (t.job? j.id).map Job.state = some .place) ∧
    ((s.crane c).state = .place → (s.crane c).leg = some .travelling → s.lineFed →
      ∃ t, exec (.atDestination c) s = .next t ∧
        t.crane c = { s.crane c with leg := some .atPlace, standing := some d } ∧
        t.jtb = s.jtb ∧ t.ltb = s.ltb)

/-- R64, R55, R75: FETCHED OK puts the load on board and records the tag read. Where the tags agree, or one of them is 0,
the crane hauls, with no standing point; where they differ at a location, PLACE-AGAIN sends the load back to it. R76: where
they differ at the infeed, the load goes to a place chosen for it, which becomes INBOUND with the tag read, or waits
NO-PLACE at the infeed. An infeed gives up its head, unless a resolution has taken it before (log entry 18), and no other
infeed is changed. That a wrong tag is remembered in a list of the job table is the model's own (log entry 11). -/
def Obligations.FetchedOkPutsTheLoadOnBoard : Prop :=
  ∀ (s : State) (c : CraneNo) (tag : Tag) (j : Job) (d : Place), (s.crane c).role ≠ .absent →
    (s.crane c).state = .fetch → (s.crane c).order = .none → s.craneJob? c = some j → j.dest = some d →
    (∀ e, e ≠ c → (s.crane e).job ≠ some j.id) →
    ((j.expTag = 0 ∨ tag = 0 ∨ j.expTag = tag) → ∃ t, exec (.fetchedOk c tag) s = .next t ∧
      (t.crane c).state = .haul ∧ (t.crane c).load = .tag tag ∧ (t.crane c).standing = none ∧
      (t.crane c).motionDeadline =
        some (s.now + motionLimit (s.craneProf c) (haulEstimate (s.craneProf c) j.source d)) ∧
      (t.job? j.id).map Job.state = some .haul ∧
      (tag ≠ 0 → (t.job? j.id).bind Job.tagRead = some tag) ∧
      (∀ a, (t.station a).infeed = if j.source = .infeed ∧ a = j.aisle ∧ j.id ∉ s.jtb.headTaken
        then (s.station a).infeed.tail else (s.station a).infeed)) ∧
    (∀ l st, j.expTag ≠ 0 → tag ≠ 0 → j.expTag ≠ tag → j.source = .loc l → (s.crane c).standing = some st →
      ∃ t, exec (.fetchedOk c tag) s = .next t ∧ (t.crane c).state = .place ∧ (t.crane c).leg = some .travelling ∧
        (t.crane c).load = .tag tag ∧ CraneOrder.placeAgain (.loc l) ∈ t.ordersTo c ∧
        (t.crane c).motionDeadline =
          some (s.now + motionLimit (s.craneProf c) (placeAgainEstimate (s.craneProf c) st (.loc l))) ∧
        (t.job? j.id).map Job.state = some .place ∧ (t.job? j.id).map Job.dest = some (some (.loc l)) ∧
        (t.job? j.id).bind Job.tagRead = some tag ∧ j.id ∈ t.jtb.mismatched) ∧
    (∀ st, j.expTag ≠ 0 → tag ≠ 0 → j.expTag ≠ tag → j.source = .infeed → (s.crane c).standing = some st →
      s.ltb.wf = true →
      ∃ t k, exec (.fetchedOk c tag) s = .next t ∧ (t.crane c).state = .place ∧ (t.crane c).load = .tag tag ∧
        (t.crane c).standing = some st ∧ t.job? j.id = some k ∧ k.state = .place ∧ k.tagRead = some tag ∧
        j.id ∈ t.jtb.mismatched ∧
        (∀ a, (t.station a).infeed = if a = j.aisle ∧ j.id ∉ s.jtb.headTaken
          then (s.station a).infeed.tail else (s.station a).infeed) ∧
        (((t.crane c).leg = some .travelling ∧ ∃ l, k.dest = some (.loc l) ∧ (t.loc l).occ = .inbound tag j.id ∧
            CraneOrder.placeAgain (.loc l) ∈ t.ordersTo c ∧
            (t.crane c).motionDeadline =
              some (s.now + motionLimit (s.craneProf c) (placeAgainEstimate (s.craneProf c) st (.loc l)))) ∨
          ((t.crane c).leg = some .waiting ∧ k.dest = none ∧ k.waits.noPlace = true ∧
            (t.crane c).motionDeadline = none)))

/-- R70, R40, R11: FETCHED EMPTY ends the job of a crane of an OPEN aisle FAILED EMPTY-SOURCE: the crane stands at the source,
the end report is told, the record of a host job is freed, and an infeed gives up its head, unless a resolution has taken it
before (log entry 18). Every location the job held is EMPTY, unless another job takes it within the event, which may bear the
same id when that is an internal one (R20). -/
def Obligations.FetchedEmptyEndsTheJob : Prop :=
  ∀ (s : State) (c : CraneNo) (j : Job), (s.crane c).role ≠ .absent → (s.crane c).state = .fetch →
    (s.crane c).order = .none → s.craneJob? c = some j → (s.aisle (aisleOf c)).state = .opened →
    let named := j.id < 2147483648 ∧ 2147483648 ≤ s.jtb.internalId
    ∃ t, exec (.fetchedEmpty c) s = .next t ∧ (t.crane c).pos = some (j.source.point (s.craneProf c)) ∧
      (t.crane c).load = (s.crane c).load ∧ (t.crane c).cycles = (s.crane c).cycles ∧
      (named → t.job? j.id = none) ∧
      (s.hli.reports.length ≤ 240 → ∃ e, Report.jobEnded e ∈ t.told ∧ e.id = j.id ∧ e.outcome = .failed ∧
        e.cause = some .emptySource ∧ e.run = j.run) ∧
      (∀ a, (t.station a).infeed = if j.source = .infeed ∧ a = j.aisle ∧ j.id ∉ s.jtb.headTaken
        then (s.station a).infeed.tail else (s.station a).infeed) ∧
      (s.ltb.wf = true → ∀ l ∈ j.locs, (s.loc l).occ.holder = some j.id →
        (t.loc l).occ = .empty ∨ ∃ x h, (t.loc l).occ = .inbound x h ∧ (named → h ≠ j.id))

/-- R66, R81, R9, R40: PLACED OK ends the cycle of a crane of an OPEN aisle: position, cycle count and reference status, no
load; the record of a host job is freed and no location it named is held by it any more (a clearance job made in the event
may bear the same id when that is an internal one, R20); at the outfeed the load stands at the FIFO's tail with the tag read
and the job's group. Without a wrong tag the job ends COMPLETED: a location it held INBOUND records the pallet with the tag
read, one it held OUTBOUND is EMPTY (R9), unless another job takes it within the event, and JOB-ENDED is told, or LOAD-MOVED
for a clearance job, with the parent that is live (R133). After a wrong tag, which a list of the model's own remembers (log
entry 11), it ends FAILED TAG-MISMATCH: back at its source, held OUTBOUND or taken INBOUND again, the pallet is recorded there
with the tag read (R11); at any other place the records are completed by R9, and at a location a DISPOSAL report names it
(R134), with note OCCUPIED when a place chosen for the load was found occupied before (log entry 45). -/
def Obligations.PlacedOkEndsTheCycle : Prop :=
  ∀ (s : State) (c : CraneNo) (j : Job) (st : Place), (s.crane c).role ≠ .absent → (s.crane c).state = .place →
    (s.crane c).leg = some .atPlace → (s.crane c).standing = some st → s.craneJob? c = some j →
    (s.aisle (aisleOf c)).state = .opened → s.ltb.wf = true →
    let tag := j.tagRead.getD 0
    ∃ t, exec (.placedOk c) s = .next t ∧ (t.crane c).pos = some (st.point (s.craneProf c)) ∧
      (t.crane c).load = .none ∧
      (t.crane c).cycles = min ((s.crane c).cycles + 1) ((s.craneProf c).refInterval + 8) ∧
      (t.crane c).refStatus = (if (t.crane c).cycles < (s.craneProf c).refInterval then .current
        else if (t.crane c).cycles < (s.craneProf c).refInterval + 8 then .due else .forced) ∧
      (j.id < 2147483648 → 2147483648 ≤ s.jtb.internalId →
        t.job? j.id = none ∧ ∀ l ∈ j.locs, (t.loc l).occ.holder ≠ some j.id) ∧
      (st = .outfeed → (t.station j.aisle).outfeed =
        (s.station j.aisle).outfeed ++ [{ tag := tag, member := j.group }] ∧
        j.id ∉ (t.station j.aisle).reserved) ∧
      (j.id ∉ s.jtb.mismatched ∨ st ≠ j.source →
        (∀ l ∈ j.locs, ∀ x, (s.loc l).occ = .inbound x j.id →
          (t.loc l).occ = .full tag ∨ ∃ h, (t.loc l).occ = .outbound tag h) ∧
        (∀ l ∈ j.locs, ∀ x, (s.loc l).occ = .outbound x j.id →
          (t.loc l).occ = .empty ∨ ∃ y h, (t.loc l).occ = .inbound y h)) ∧
      (j.id ∉ s.jtb.mismatched → s.hli.reports.length ≤ 240 →
        (j.kind ≠ .clearance → ∃ e, Report.jobEnded e ∈ t.told ∧ e.id = j.id ∧ e.outcome = .completed ∧
          e.cause = none ∧ e.tagRead = j.tagRead ∧ e.run = j.run ∧ ∀ l, e.final = some l ↔ st = .loc l) ∧
        (j.kind = .clearance → ∃ m, Report.loadMoved m ∈ t.told ∧ m.id = j.id ∧ m.reason = .clearance ∧
          m.tag = tag ∧ m.source = j.source ∧ m.noteOccupied = j.noteOccupied ∧
          (∀ l, m.target = some l ↔ st = .loc l) ∧
          (2147483648 ≤ s.jtb.internalId → ∀ p, p < 2147483648 →
            (m.parent = some p ↔ j.parent = some p ∧ s.isLive p = true)))) ∧
      (j.id ∈ s.jtb.mismatched →
        (∀ l x, st = .loc l → j.source = .loc l →
          ((s.loc l).occ = .outbound x j.id ∨ (s.loc l).occ = .inbound x j.id) →
          (t.loc l).occ = .full tag ∨ ∃ h, (t.loc l).occ = .outbound tag h) ∧
        (s.hli.reports.length ≤ 240 →
          (∃ e, Report.jobEnded e ∈ t.told ∧ e.id = j.id ∧ e.outcome = .failed ∧ e.cause = some .tagMismatch) ∧
          (∀ l, st = .loc l → j.source ≠ .loc l → ∃ m, Report.loadMoved m ∈ t.told ∧ m.id = j.id ∧
            m.reason = .disposal ∧ m.tag = tag ∧ m.source = j.source ∧ m.target = some l ∧
            (m.noteOccupied = true ↔ j.id ∈ s.jtb.targetOccupied))))

/-- R11, R77, R79: PLACED OCCUPIED at a location the job holds makes it FULL, tag 0, locked, and the crane goes on in PLACE,
on the way to another place or waiting for one, with note OCCUPIED in its job. A place that was reserved for a wrong-tag
load is remembered for the DISPOSAL report (R134), in a list of the model's own (log entry 45). At the outfeed the crane
waits there, without a deadline, and its job holds STATION-BLOCKED. R72: a late one, for a job STRANDED in PLACE, corrects
the location, leaves the job STRANDED without a destination, and changes nothing of the crane; that it sets note OCCUPIED
too (R41) and remembers the place is the model's reading (log entries 23 and 45). -/
def Obligations.PlacedOccupiedKeepsTheLoad : Prop :=
  (∀ (s : State) (c : CraneNo) (j : Job), (s.crane c).role ≠ .absent → (s.crane c).state = .place →
    (s.crane c).leg = some .atPlace → s.craneJob? c = some j →
    (∀ l, (s.crane c).standing = some (.loc l) → (s.loc l).occ.holder = some j.id → s.ltb.wf = true →
      ∃ t, exec (.placedOccupied c) s = .next t ∧ t.loc l = { occ := .full 0, locked := true } ∧
        (t.crane c).state = .place ∧ ((t.crane c).leg = some .travelling ∨ (t.crane c).leg = some .waiting) ∧
        (t.crane c).load = (s.crane c).load ∧ (t.job? j.id).map Job.noteOccupied = some true ∧
        (j.id ∈ t.jtb.targetOccupied ↔ j.id ∈ s.jtb.targetOccupied ∨
          (j.id ∈ s.jtb.mismatched ∧ (s.loc l).occ = .inbound (j.tagRead.getD 0) j.id))) ∧
    ((s.crane c).standing = some .outfeed → j.waits.noPlace = false →
      ∃ t, exec (.placedOccupied c) s = .next t ∧ (t.crane c).state = .place ∧ (t.crane c).leg = some .waiting ∧
        (t.crane c).motionDeadline = none ∧ (t.crane c).span = some (0, 0) ∧
        (t.crane c).load = (s.crane c).load ∧ (t.job? j.id).map (fun k => k.waits.stationBlocked) = some true ∧
        ∀ a, (t.station a).outfeed = (s.station a).outfeed)) ∧
  (∀ (s : State) (c : CraneNo) (j : Job) (l : Loc), (s.crane c).role ≠ .absent →
    ((s.crane c).state = .faulted ∨ (s.crane c).state = .stopped) → (s.crane c).leg = some .atPlace →
    (s.crane c).standing = some (.loc l) → s.craneJob? c = some j → j.state = .stranded .place →
    (s.loc l).occ.holder = some j.id → s.ltb.wf = true →
    ∃ t k, exec (.placedOccupied c) s = .next t ∧ t.loc l = { occ := .full 0, locked := true } ∧
      t.crane c = s.crane c ∧ t.job? j.id = some k ∧ k.state = .stranded .place ∧ k.dest = none ∧ k.noteOccupied = true ∧
      (j.id ∈ t.jtb.targetOccupied ↔ j.id ∈ s.jtb.targetOccupied ∨
        (j.id ∈ s.jtb.mismatched ∧ (s.loc l).occ = .inbound (j.tagRead.getD 0) j.id)))

/-- R86, R95: MOVED puts a crane of an OPEN aisle at its target; at the end of a yield the crane in HOLD is sent its CYCLE
and enters LEAD. A park expiry, taken at its time, sends MOVE PARK to the park bay when the plain rail test passes; otherwise
the idle-since time is set anew and nothing else of the crane is changed. A crane that no park is timed for is left as it is
(log entry 2). -/
def Obligations.MovesEndAtTheirTargets : Prop :=
  (∀ (s : State) (c : CraneNo) (why : Purpose) (b : Nat), (s.crane c).role ≠ .absent → (s.crane c).state = .move →
    (s.crane c).move = some (why, b) → (s.aisle (aisleOf c)).state = .opened →
    ∃ t, exec (.moved c) s = .next t ∧ (t.crane c).pos = some (b, 0) ∧
      (∀ j, why = .yielding → (s.crane (other c)).state = .hold → s.craneJob? (other c) = some j →
        (t.crane (other c)).state = .lead ∧ CraneOrder.cycle j.content ∈ t.ordersTo (other c))) ∧
  (∀ (s : State) (c : CraneNo) (t0 : Ms) (b : Nat) (pos : Point),
    (s.parkTime c = none → exec (.parkExpiry c) s = .next s) ∧
    (s.parkTime c = some t0 → (s.crane c).pos = some pos → b = parkBay (s.craneProf c) (s.crane c).role →
      ∃ t, exec (.parkExpiry c) s = .next t ∧ t.now = max s.now t0 ∧
        (s.plainTest c (min pos.1 b, max pos.1 b) = true →
          (t.crane c).state = .move ∧ (t.crane c).move = some (.park, b) ∧
          (t.crane c).span = some (min pos.1 b, max pos.1 b) ∧ CraneOrder.move b .park ∈ t.ordersTo c ∧
          (t.crane c).motionDeadline = some (max s.now t0 + motionLimit (s.craneProf c)
            (moveEstimate (s.craneProf c) pos (b, 0)))) ∧
        (s.plainTest c (min pos.1 b, max pos.1 b) = false → s.lineFed →
          t.crane c = { s.crane c with idleSince := some (max s.now t0) })))

/-- R83, R81, R177: REFERENCED in an aisle that is OPEN, without a STRANDED job: within the drift limit and without a load,
the count is 0, the status CURRENT and the position the reference bay; beyond the limit the crane faults DRIFT; with a load
it faults UNEXPECTED-LOAD and keeps the load's tag. After the first run of a FULL start a second REFERENCE follows at once;
R177 names no count there, and that by R81 a drift within the limit sets it to 0 there too is the model's reading (log entry
43). R178, R185: a run that ends well opens the aisle when it was the last one needed: the second of every present crane of
a FULL start, with the others IDLE, or the first of every present crane of a RELEASE start. R179, R186: a run that ends in a
fault fails the start with its cause: an aisle under a FULL start is CLOSED, with its cranes OFFLINE, and one under a
RELEASE start is in LOCKOUT again, with its cranes STOPPED and their STRANDED jobs in the phases they had. -/
def Obligations.ReferencedEndsTheRun : Prop :=
  ∀ (s : State) (c : CraneNo) (drift : Nat) (sensed : Bool) (tag : Tag), (s.crane c).role ≠ .absent →
    (s.crane c).state = .reference → (s.crane c).carryPending = false →
    ((s.aisle (aisleOf c)).state = .opened → (s.aisle (aisleOf c)).start = none → (s.crane c).job = none →
      ∃ t, exec (.referenced c drift sensed tag) s = .next t ∧
        (drift ≤ (s.craneProf c).driftLimit → sensed = false →
          (t.crane c).cycles = 0 ∧ (t.crane c).refStatus = .current ∧ (t.crane c).load = .none ∧
          (t.crane c).pos = some (refBay (s.craneProf c) (s.crane c).role, 0)) ∧
        (drift ≤ (s.craneProf c).driftLimit → sensed = true →
          (t.crane c).state = .faulted ∧ (t.crane c).fault = some .unexpectedLoad ∧ (t.crane c).load = .tag tag) ∧
        ((s.craneProf c).driftLimit < drift →
          (t.crane c).state = .faulted ∧ (t.crane c).fault = some .drift ∧
          (t.crane c).cycles = (s.crane c).cycles)) ∧
    (∀ st, (s.aisle (aisleOf c)).start = some st → st.kind = .full → st.runs c = 0 →
      ∃ t, exec (.referenced c drift sensed tag) s = .next t ∧ (t.crane c).state = .reference ∧
        (t.crane c).pos = some (refBay (s.craneProf c) (s.crane c).role, 0) ∧
        (t.crane c).load = (if sensed then .tag tag else .none) ∧ (t.aisle (aisleOf c)).start = some (st.addRun c) ∧
        CraneOrder.reference ∈ t.ordersTo c ∧
        (drift ≤ (s.craneProf c).driftLimit → (t.crane c).cycles = 0 ∧ (t.crane c).refStatus = .current) ∧
        ((s.craneProf c).driftLimit < drift →
          (t.crane c).cycles = (s.crane c).cycles ∧ (t.crane c).refStatus = (s.crane c).refStatus)) ∧
    (∀ st, (s.aisle (aisleOf c)).state = .starting → (s.aisle (aisleOf c)).start = some st →
      (st.kind = .full → 1 ≤ st.runs c) → (s.crane c).job = none →
      ∃ t, exec (.referenced c drift sensed tag) s = .next t ∧
        (drift ≤ (s.craneProf c).driftLimit → sensed = false →
          (∀ e, aisleOf e = aisleOf c → e ≠ c → (s.crane e).role ≠ .absent →
            (st.kind = .full → 2 ≤ st.runs e ∧ (s.crane e).state = .idle) ∧ (st.kind = .release → 1 ≤ st.runs e)) →
          (t.aisle (aisleOf c)).state = .opened ∧ (t.aisle (aisleOf c)).start = none ∧
          (s.hli.reports.length ≤ 240 → Report.aisleState (aisleOf c) .opened none ∈ t.told)) ∧
        (((s.craneProf c).driftLimit < drift ∨ sensed = true) → st.phase = .referencing →
          let cause := if (s.craneProf c).driftLimit < drift then StartFailure.drift else .craneFault
          (st.kind = .full → (t.aisle (aisleOf c)).state = .closed ∧ (t.aisle (aisleOf c)).start = none ∧
            (∀ e, aisleOf e = aisleOf c → (s.crane e).role ≠ .absent → (t.crane e).state = .offline) ∧
            (s.hli.reports.length ≤ 240 → Report.aisleState (aisleOf c) .closed (some cause) ∈ t.told)) ∧
          (st.kind = .release → (t.aisle (aisleOf c)).state = .lockout ∧ (t.aisle (aisleOf c)).start = none ∧
            (t.aisle (aisleOf c)).resume = some .release ∧
            (∀ e, aisleOf e = aisleOf c → (s.crane e).role ≠ .absent → (s.crane e).state ≠ .offline →
              (t.crane e).state = .stopped ∧
              ∀ j ph, s.craneJob? e = some j → j.state = .stranded ph → (∀ d, d ≠ e → (s.crane d).job ≠ some j.id) →
                (∀ d, (s.crane d).promised ≠ some j.id) →
                (t.crane e).job = some j.id ∧ (t.job? j.id).map Job.state = some (.stranded ph)) ∧
            (s.hli.reports.length ≤ 240 → Report.aisleState (aisleOf c) .lockout (some cause) ∈ t.told))))

/-- R84: at the REFERENCED of a crane of an OPEN aisle with a STRANDED job and no load sensed, a job stranded in FETCH is
unstarted again, or granted or promised anew in the event, a RETRIEVE bound for the outfeed (log entry 49), and a job
stranded later ends FAILED LOAD-LOST. With its load sensed and the tags agreeing, the job stays with its crane, which hauls
it or has its CARRY pending; a wrong tag gives the job a place chosen for it, or the crane faults NO-PLACE. R186: a job
without its CARRY keeps its stranded phase. The head of an infeed is removed once (log entry 18). The tag compared is the
one the REFERENCED read, or the job's when it read none (log entry 18). R72, R74, R28: a late report that fits the stranded
phase gives its facts alone: FETCHED OK the load and phase HAUL, AT-DESTINATION the place and phase PLACE, FETCHED EMPTY and
PLACED OK the end of the job; that a late wrong tag is remembered is the model's reading (log entry 46). R74: a late FETCHED
or PLACED on a crane without a job sets the load on board and is told UNMATCHED-REPORT; no job, location record or station
load is changed. -/
def Obligations.ReferencedResolvesTheStrandedJob : Prop :=
  (∀ (s : State) (c : CraneNo) (drift : Nat) (tag : Tag) (j : Job) (d : Place), (s.crane c).role ≠ .absent →
    (s.crane c).state = .reference → (s.crane c).carryPending = false →
    (s.aisle (aisleOf c)).state = .opened → (s.aisle (aisleOf c)).start = none →
    drift ≤ (s.craneProf c).driftLimit → s.craneJob? c = some j → j.dest = some d →
    (∀ e, e ≠ c → (s.crane e).job ≠ some j.id) →
    let compared := if tag = 0 then j.tagRead.getD 0 else tag
    let headGone := fun (ph : Phase) (t : State) =>
      (ph = .fetch → j.source = .infeed → j.id ∈ t.jtb.headTaken) ∧
      ∀ a, (t.station a).infeed = if ph = .fetch ∧ j.source = .infeed ∧ a = j.aisle ∧ j.id ∉ s.jtb.headTaken
        then (s.station a).infeed.tail else (s.station a).infeed
    (∀ ph, j.state = .stranded ph → ph ≠ .fetch →
      ∃ t, exec (.referenced c drift false tag) s = .next t ∧
        (j.id < 2147483648 → 2147483648 ≤ s.jtb.internalId → t.job? j.id = none) ∧
        (s.hli.reports.length ≤ 240 → ∃ e, Report.jobEnded e ∈ t.told ∧ e.id = j.id ∧ e.outcome = .failed ∧
          e.cause = some .loadLost)) ∧
    (j.state = .stranded .fetch →
      ∃ t k, exec (.referenced c drift false tag) s = .next t ∧ t.job? j.id = some k ∧
        ((k.state.unstarted = true ∧ k.crane = none) ∨
          ∃ e, k.crane = some e ∧ ((k.state = .lead ∧ (t.crane e).job = some j.id) ∨
            (k.state = .promised ∧ (t.crane e).promised = some j.id))) ∧
        k.source = j.source ∧ k.dest = (if j.kind = .retrieve then some .outfeed else j.dest) ∧
        (∀ a, (t.station a).infeed = (s.station a).infeed)) ∧
    (∀ ph, j.state = .stranded ph → (j.expTag = 0 ∨ compared = 0 ∨ compared = j.expTag) →
      ∃ t k, exec (.referenced c drift true tag) s = .next t ∧ t.job? j.id = some k ∧ (t.crane c).job = some j.id ∧
        (t.crane c).load = .tag tag ∧ headGone ph t ∧
        (((t.crane c).state = .haul ∧ k.state = .haul ∧ CraneOrder.carry d ∈ t.ordersTo c) ∨
          ((t.crane c).state = .reference ∧ (t.crane c).carryPending = true ∧ k.state = .stranded ph))) ∧
    (∀ ph, j.state = .stranded ph → j.expTag ≠ 0 → compared ≠ 0 → compared ≠ j.expTag → s.ltb.wf = true →
      ∃ t k, exec (.referenced c drift true tag) s = .next t ∧ t.job? j.id = some k ∧ (t.crane c).job = some j.id ∧
        j.id ∈ t.jtb.mismatched ∧ headGone ph t ∧
        ((∃ l, k.dest = some (.loc l) ∧ (t.loc l).occ = .inbound (j.tagRead.getD tag) j.id ∧
            (((t.crane c).state = .haul ∧ k.state = .haul ∧ CraneOrder.carry (.loc l) ∈ t.ordersTo c) ∨
              ((t.crane c).state = .reference ∧ (t.crane c).carryPending = true ∧ k.state = .stranded ph))) ∨
          (k.dest = none ∧ (t.crane c).state = .faulted ∧ (t.crane c).fault = some .noPlace ∧
            k.state = .stranded ph)))) ∧
  (∀ (s : State) (c : CraneNo) (j : Job) (ph : Phase), (s.crane c).role ≠ .absent →
    ((s.crane c).state = .faulted ∨ (s.crane c).state = .stopped) → s.craneJob? c = some j →
    j.state = .stranded ph → j.crane = some c → (∀ e, e ≠ c → (s.crane e).job ≠ some j.id) → s.hli.ok →
    (s.aisle (aisleOf c)).state ≠ .closing →
    (∀ tag, ph = .fetch → ∃ t k, exec (.fetchedOk c tag) s = .next t ∧ t.crane c = { s.crane c with load := .tag tag } ∧
      t.job? j.id = some k ∧ k.state = .stranded .haul ∧ k.dest = j.dest ∧
      k.tagRead = (if tag = 0 then none else some tag) ∧ (j.source ≠ .infeed → t.ltb = s.ltb) ∧
      (j.expTag ≠ 0 → tag ≠ 0 → j.expTag ≠ tag → j.id ∈ t.jtb.mismatched) ∧
      (∀ a, (t.station a).infeed = if j.source = .infeed ∧ a = j.aisle ∧ j.id ∉ s.jtb.headTaken
        then (s.station a).infeed.tail else (s.station a).infeed)) ∧
    (∀ d, ph = .haul → j.dest = some d →
      exec (.atDestination c) s = .next ((s.mapCrane c (fun x => { x with leg := some .atPlace, standing := some d })).mapJob
        j.id (fun x => { x with state := .stranded .place }))) ∧
    (ph = .fetch →
      ∃ t, exec (.fetchedEmpty c) s = .next t ∧
        (j.id < 2147483648 → 2147483648 ≤ s.jtb.internalId → t.job? j.id = none) ∧ (t.crane c).state = (s.crane c).state ∧
        (t.crane c).job = none ∧ (t.crane c).span = (s.crane c).span ∧
        (t.crane c).pos = (if (s.crane c).state = .faulted then some (j.source.point (s.craneProf c))
          else (s.crane c).pos)) ∧
    (∀ st, ph = .place → (s.crane c).leg = some .atPlace → (s.crane c).standing = some st →
      ∃ t, exec (.placedOk c) s = .next t ∧
        (j.id < 2147483648 → 2147483648 ≤ s.jtb.internalId → t.job? j.id = none) ∧ (t.crane c).state = (s.crane c).state ∧
        (t.crane c).job = none ∧ (t.crane c).load = .none ∧
        (t.crane c).pos = (if (s.crane c).state = .faulted then some (st.point (s.craneProf c)) else (s.crane c).pos) ∧
        (s.hli.reports.length ≤ 240 → j.kind ≠ .clearance → ∃ e, Report.jobEnded e ∈ t.told ∧ e.id = j.id ∧
          (j.id ∉ s.jtb.mismatched → e.outcome = .completed) ∧
          (j.id ∈ s.jtb.mismatched → e.outcome = .failed ∧ e.cause = some .tagMismatch))) ∧
    (ph ≠ .fetch → s.hli.reports.length < 256 → ∀ tag, ∃ t, exec (.fetchedOk c tag) s = .next t ∧
      t.jtb = s.jtb ∧ t.ltb = s.ltb ∧ t.cranes = s.cranes ∧
      ∃ r, Report.craneState r ∈ t.told ∧ r.crane = c ∧ r.unmatched = true ∧ r.state = (s.crane c).state)) ∧
  (∀ (s : State) (c : CraneNo) (tag : Tag), (s.crane c).role ≠ .absent →
    ((s.crane c).state = .faulted ∨ (s.crane c).state = .stopped) → (s.crane c).job = none →
    s.hli.reports.length < 256 →
    let loaded := fun (i : Instr) (load : Load) =>
      ∃ t, exec i s = .next t ∧ t.crane c = { s.crane c with load := load } ∧
        (∀ e, e ≠ c → t.crane e = s.crane e) ∧ t.jtb = s.jtb ∧ t.ltb = s.ltb ∧ t.stu = s.stu ∧
        ∃ r, Report.craneState r ∈ t.told ∧ r.crane = c ∧ r.unmatched = true ∧ r.state = (s.crane c).state
    loaded (.fetchedOk c tag) (.tag tag) ∧ loaded (.fetchedEmpty c) .none ∧ loaded (.placedOk c) .none ∧
      loaded (.placedOccupied c) .unknown)

/-- R61: STOPPED ends the wait for the answer, and changes nothing else while the aisle is not STARTING; without it the stop
answer timeout ends the wait, and CRANE-STATE with note NO-ANSWER is told. That the timer then stands at the deadline, or
where it stood when that was later, is the model's choice (log entry 2). -/
def Obligations.StopAnswersEndTheWait : Prop :=
  ∀ (s : State) (c : CraneNo) (t0 : Ms), s.hli.ok → (s.aisle (aisleOf c)).start = none →
    (s.crane c).stopDeadline = some t0 →
    ((s.crane c).role ≠ .absent →
      exec (.stopped c) s = .next (s.mapCrane c (fun x => { x with stopDeadline := none }))) ∧
    (s.hli.reports.length < 256 → ∃ t, exec (.stopAnswerTimeout c) s = .next t ∧ t.now = max s.now t0 ∧
      t.crane c = { s.crane c with stopDeadline := none } ∧
      (∃ r, Report.craneState r ∈ t.told ∧ r.crane = c ∧ r.noAnswer = true ∧ r.state = (s.crane c).state) ∧
      t.jtb = s.jtb ∧ t.ltb = s.ltb ∧ t.stu = s.stu)

/-- R68, R33: REDIRECT-TAKEN makes the promised job the crane's job, with the lead deadline of its source, and bumps the
displaced one: bump count up by 1, urgency down by 1 but not below 1. REDIRECT-LATE in FETCH drops the promise, the order
and the claim, and leaves the crane otherwise as it was; the job is promised to it no more. R114, R115: a rush redirect is
promised exactly when the job's conditions hold and a crane qualifies: the crane chosen has the least urgent job, then the
smaller lead estimate; the job is PROMISED to it, its claim holds the span of the two cycles, and REDIRECT is sent. -/
def Obligations.RedirectAnswersSettleThePromise : Prop :=
  (∀ (s : State) (c : CraneNo) (j k : Job), (s.crane c).role ≠ .absent → (s.crane c).order = .redirect →
    s.craneJob? c = some j → (s.crane c).promised = some k.id → s.job? k.id = some k → k.id ≠ j.id →
    ((s.crane c).state = .lead → (∀ e, e ≠ c → (s.crane e).job ≠ some k.id) →
      ∃ t, exec (.redirectTaken c) s = .next t ∧ (t.crane c).state = .lead ∧ (t.crane c).job = some k.id ∧
        (t.crane c).motionDeadline = some (s.now + motionLimit (s.craneProf c)
          (leadEstimate (s.craneProf c) (s.crane c).pos k.source)) ∧
        (t.job? k.id).map Job.state = some .lead ∧
        (t.job? j.id).map (fun x => (x.bump, x.urgency)) =
          some (j.bump + 1, if 1 < j.urgency then j.urgency - 1 else j.urgency)) ∧
    ((s.crane c).state = .fetch →
      ∃ t, exec (.redirectLate c) s = .next t ∧
        t.crane c = { s.crane c with promised := none, order := .none } ∧ t.claimOf c = none ∧
        ∀ x, t.job? k.id = some x → x.state = .promised → x.crane ≠ some c)) ∧
  (∀ (w : Work) (k : Job), w.st.job? k.id = some k →
    let s := w.st
    let rush := k.state = .ready ∧ k.kind ≠ .clearance ∧ k.urgency < (s.aisle k.aisle).ceiling ∧
      (s.aisle k.aisle).state = .opened ∧ s.hli.pause = false ∧
      ∀ c, aisleOf c = k.aisle → ¬ (s.available c = true ∧ s.eligible c k = true)
    let displaces := fun (c : CraneNo) (j : Job) (claim : Span) =>
      aisleOf c = k.aisle ∧ s.craneJob? c = some j ∧ (s.crane c).state = .lead ∧ (s.crane c).order = .none ∧
      k.urgency < j.urgency ∧ j.bump < 3 ∧ roleAndReach (s.craneProf c) (s.crane c).role k = true ∧
      (∃ x p d, (s.crane c).span = some x ∧ (s.crane c).pos = some p ∧ k.dest = some d ∧
        claim = (min x.1 (min p.1 (min (k.source.bay (s.craneProf c)) (d.bay (s.craneProf c)))),
          max x.2 (max p.1 (max (k.source.bay (s.craneProf c)) (d.bay (s.craneProf c)))))) ∧
      s.plainTest c claim = true ∧
      (k.kind = .retrieve → s.outfeedSum k.aisle < (s.prof k.aisle).outfeedCap +
        if j.kind = .retrieve then 1 else 0) ∧
      ((s.crane c).refStatus = .due → k.urgency ≤ 1) ∧
      (s.aisle k.aisle).active.serves (s.crane c).role k = true
    let est := fun (c : CraneNo) => leadEstimate (s.craneProf c) (s.crane c).pos k.source
    let t := (w.redirect k.id).1.st
    ((w.redirect k.id).2 = true ↔ rush ∧ ∃ c j cl, displaces c j cl) ∧
    ((w.redirect k.id).2 = false → t = s) ∧
    ((w.redirect k.id).2 = true → ∃ c j cl, displaces c j cl ∧
      (∀ e x y, displaces e x y → x.urgency < j.urgency ∨ (x.urgency = j.urgency ∧ est c ≤ est e)) ∧
      t.crane c = { s.crane c with promised := some k.id, order := .redirect } ∧ t.claimOf c = some cl ∧
      (t.job? k.id).map (fun x => (x.state, x.crane, x.readySince)) = some (.promised, some c, none) ∧
      CraneOrder.redirect k.content ∈ t.ordersTo c))

/-- R38, R69, R71: ABORT-TAKEN at a stop position within the span ends the job CANCELLED, with its end report and the cause
of the cancel request, and the crane of an OPEN aisle stands there; the locations the job holds become EMPTY, and FULL with
the recorded tag (R10), unless another job takes one within the event; so with internal ids too, where an id may be given
anew in the event (R20). At any other position the crane faults PROTOCOL. ABORT-LATE clears the order and the cancel
request, sets note LATE-CANCEL, and changes nothing else. R72: an ABORT-TAKEN that comes to a FAULTED crane, also when its
job has ended (R40), sets the position to a stop position that passes the tests of R69, and changes nothing else. -/
def Obligations.AbortAnswersEndTheCancel : Prop :=
  (∀ (s : State) (c : CraneNo) (j : Job), (s.crane c).role ≠ .absent → (s.crane c).order = .abort →
    s.craneJob? c = some j → s.lineFed →
    let named := j.id < 2147483648 ∧ 2147483648 ≤ s.jtb.internalId
    (∀ bay level, (s.crane c).state = .lead → (s.aisle (aisleOf c)).state = .opened →
      (s.aisle (aisleOf c)).start = none →
      ∃ t, exec (.abortTaken c bay level) s = .next t ∧
        (s.stopPosOk c bay level = true → (t.crane c).pos = some (bay, level) ∧ (named → t.job? j.id = none) ∧
          (s.hli.reports.length ≤ 240 → ∃ e, Report.jobEnded e ∈ t.told ∧ e.id = j.id ∧ e.outcome = .cancelled ∧
            e.run = j.run ∧ (j.cancelReq = some .host → e.cause = some .host) ∧
            (j.cancelReq = some .groupCancelled → e.cause = some .groupCancelled)) ∧
          (s.ltb.wf = true → ∀ l ∈ j.locs, ∀ x,
            ((s.loc l).occ = .inbound x j.id →
              (t.loc l).occ = .empty ∨ ∃ y h, (t.loc l).occ = .inbound y h ∧ (named → h ≠ j.id)) ∧
            ((s.loc l).occ = .outbound x j.id →
              (t.loc l).occ = .full x ∨ ∃ h, (t.loc l).occ = .outbound x h ∧ (named → h ≠ j.id)))) ∧
        (s.stopPosOk c bay level = false → (t.crane c).state = .faulted ∧ (t.crane c).fault = some .protocol)) ∧
    (((s.crane c).state = .lead ∨ (s.crane c).state = .fetch) →
      exec (.abortLate c) s = .next ((s.mapJob j.id (fun x => { x with cancelReq := none, noteLate := true })).mapCrane c
        (fun x => { x with order := .none })))) ∧
  (∀ (s : State) (c : CraneNo) (bay level : Nat), (s.crane c).role ≠ .absent → (s.crane c).state = .faulted →
    s.lineFed →
    exec (.abortTaken c bay level) s = .next
      (if s.stopPosOk c bay level then s.mapCrane c (fun x => { x with pos := some (bay, level) }) else s))

/-- R176: the outstanding frame is decided by an ECHO that names it, with an error when its body differs, or by its
deadline, with an error. Above the allowance the link is FAILED and the aisle CLOSED; after frame 63 it is PROVEN; otherwise
the next frame is sent with a deadline of 200 ms, and nothing else is changed. That a body of another length than the
PROBE's counts an error too, and is no misfit, is the model's reading (log entry 51). An ECHO of another frame is discarded.
That the timer stands at the deadline after its expiry, or where it stood when that was later, is the model's choice (log
entry 2). -/
def Obligations.EchoesDecideTheFrames : Prop :=
  ∀ (s : State) (c : CraneNo) (n errors : Nat), s.lineFed → (s.crane c).role ≠ .absent →
    (s.crane c).state = .offline → (s.crane c).link = .proving → (s.provingOf c).frame = some n →
    let decided := fun (e : Nat) (s0 : State) (t : State) =>
      ((s.craneProf c).provingAllowance < e → (t.crane c).link = .failed ∧ (t.aisle (aisleOf c)).state = .closed) ∧
      (e ≤ (s.craneProf c).provingAllowance → 63 ≤ n → (t.crane c).link = .proven) ∧
      (e ≤ (s.craneProf c).provingAllowance → n < 63 →
        t = (s0.setProving c { errors := e, frame := some (n + 1), echoDeadline := some (s0.now + 200) }).sendOut
          (.crane c (BitVec.ofNat 16 (n + 1)) (.probe (n + 1) (probeBody (n + 1)))))
    errors = (s.provingOf c).errors →
    (∃ t, exec (.echo c n (probeBody n)) s = .next t ∧ decided errors s t) ∧
    (∀ body, body ≠ probeBody n → ∃ t, exec (.echo c n body) s = .next t ∧ decided (errors + 1) s t) ∧
    (∀ m body, m ≠ n → exec (.echo c m body) s = .next s) ∧
    (∀ t0, (s.provingOf c).echoDeadline = some t0 →
      ∃ t, exec (.echoDeadlineExpiry c) s = .next t ∧ decided (errors + 1) { s with now := max s.now t0 } t)

/-- R71, R73, R67, R99: a CRANE-FAULT, a report that does not fit (R60), and the expiry of a motion deadline put a crane of an
OPEN aisle into FAULTED with their cause: STOP is sent and timed at 5,000 ms, no motion deadline, order or promise stays, and
the span is frozen at the claim, or as it stood. A job being hauled is STRANDED in phase HAUL, and a promised one is promised
to the crane no more. That the timer stands at the deadline after an expiry, or where it stood when that was later, is the
model's choice (log entry 2). -/
def Obligations.FaultsStopTheCrane : Prop :=
  ∀ (s : State) (c : CraneNo), (s.crane c).role ≠ .absent → (s.aisle (aisleOf c)).state = .opened →
    (s.aisle (aisleOf c)).start = none → (s.crane c).state ≠ .offline → (s.crane c).state ≠ .faulted →
    (s.crane c).state ≠ .stopped →
    let faulted := fun (now : Ms) (cause : FaultCause) (t : State) =>
      (t.crane c).state = .faulted ∧ (t.crane c).fault = some cause ∧ (t.crane c).motionDeadline = none ∧
      (t.crane c).order = .none ∧ (t.crane c).promised = none ∧ (t.crane c).stopDeadline = some (now + 5000) ∧
      (t.crane c).span = (s.claimOf c).or (s.crane c).span ∧ t.claimOf c = none ∧
      CraneOrder.stop ∈ t.ordersTo c ∧
      (∀ j, s.craneJob? c = some j → j.state = .haul → (∀ e, e ≠ c → (s.crane e).job ≠ some j.id) →
        (s.crane c).promised ≠ some j.id →
        (t.job? j.id).map Job.state = some (.stranded .haul) ∧ (t.crane c).job = some j.id) ∧
      (∀ k x, (s.crane c).promised = some k → t.job? k = some x → x.state = .promised → x.crane ≠ some c)
    let lead := (s.crane c).state = .lead
    let fetch := (s.crane c).state = .fetch
    let order := (s.crane c).order
    let misfits := fun (i : Instr) =>
      (i = .atSource c ∧ ¬ lead) ∨
      ((i = .fetchedEmpty c ∨ ∃ tag, i = .fetchedOk c tag) ∧ (¬ fetch ∨ order ≠ .none)) ∨
      (i = .atDestination c ∧ (s.crane c).state ≠ .haul ∧
        ((s.crane c).state ≠ .place ∨ (s.crane c).leg ≠ some .travelling)) ∨
      ((i = .placedOk c ∨ i = .placedOccupied c) ∧
        ((s.crane c).state ≠ .place ∨ (s.crane c).leg ≠ some .atPlace)) ∨
      (i = .moved c ∧ (s.crane c).state ≠ .move) ∨
      ((∃ drift sensed tag, i = .referenced c drift sensed tag) ∧
        ((s.crane c).state ≠ .reference ∨ (s.crane c).carryPending = true)) ∨
      (i = .stopped c ∧ (s.crane c).stopDeadline = none) ∨
      (i = .redirectTaken c ∧ (¬ lead ∨ order ≠ .redirect)) ∨
      (i = .redirectLate c ∧ ((¬ lead ∧ ¬ fetch) ∨ order ≠ .redirect)) ∨
      (∃ bay level, i = .abortTaken c bay level ∧ (¬ lead ∨ order ≠ .abort ∨ s.stopPosOk c bay level = false)) ∨
      (i = .abortLate c ∧ ((¬ lead ∧ ¬ fetch) ∨ order ≠ .abort)) ∨
      (∃ n body, i = .echo c n body) ∨ i = .misfitReport c
    (∀ code, ∃ t, exec (.craneFault c code) s = .next t ∧ faulted s.now (.code code) t) ∧
    (∀ i, misfits i → ∃ t, exec i s = .next t ∧ faulted s.now .protocol t) ∧
    (∀ t0, (s.crane c).motionDeadline = some t0 →
      ∃ t, exec (.motionDeadlineExpiry c) s = .next t ∧ t.now = max s.now t0 ∧ faulted (max s.now t0) .overrun t)

/-- R55, R57, R58, R60, R150: a discarded frame changes nothing: on a crane link or the station link, whatever a crane that is
ABSENT sends, every report but STOPPED and ECHO from one that is OFFLINE, and from such a crane a STOPPED to no unanswered
STOP and an ECHO while no proving is in progress or of another frame. -/
def Obligations.DiscardedFramesChangeNothing : Prop :=
  ∀ s : State,
    (∀ c why, exec (.craneFrameDiscarded c why) s = .next s) ∧
    (∀ i c, reportingCrane i = some c → (s.crane c).role = .absent → exec i s = .next s) ∧
    (∀ i c, reportingCrane i = some c → (s.crane c).state = .offline → s.lineFed →
      (i = .stopped c → (s.crane c).stopDeadline = none) →
      (∀ n body, i = .echo c n body → (s.crane c).link ≠ .proving ∨ (s.provingOf c).frame ≠ some n) →
      exec i s = .next s) ∧
    exec (.stationFrameDiscarded .badCheck) s = .next s ∧ exec (.stationFrameDiscarded .oversize) s = .next s

/-! ## The shared rail and place selection -/

/-- R89: from a state with legal profiles whose rails are in order, every step leads to one whose rails are in order: where both
cranes of a twin aisle have effective spans, the high end of FRONT plus the separation stays at or below the low end of REAR.
R92, R94: a span that passes the plain test lies within the crane's reach and keeps the separation from the other crane's
effective span. A yield target lies in the yielding crane's reach and keeps the separation from the proposed span. R90,
R93, R111: when a decision sends a CYCLE to a crane of a twin aisle, the span written keeps the separation from the other
crane's effective span, which the decision leaves as it was. -/
def Obligations.TheRailKeepsTheSeparation : Prop :=
  (∀ s t : State, s.profiled → s.railed → step s = .next t → t.railed) ∧
  (∀ (s : State) (a : AisleNo) (p : Profile) (x y : Span), s.railed → (s.aisle a).profile = some p →
    p.craneCount = 2 → s.profiled → s.effectiveSpan (frontOf a) = some x → s.effectiveSpan (rearOf a) = some y →
    x.2 + p.separation ≤ y.1) ∧
  (∀ (s : State) (c : CraneNo) (x : Span),
    (s.plainTest c x = true → (s.crane c).role = .front →
      (x.1 ≤ (s.craneProf c).bays + 1 - (s.craneProf c).separation ∧
        x.2 ≤ (s.craneProf c).bays + 1 - (s.craneProf c).separation) ∧
      ∃ o, s.effectiveSpan (other c) = some o ∧ x.2 + (s.craneProf c).separation ≤ o.1) ∧
    (s.plainTest c x = true → (s.crane c).role = .rear →
      ((s.craneProf c).separation ≤ x.1 ∧ x.2 ≤ (s.craneProf c).bays + 1) ∧
      ∃ o, s.effectiveSpan (other c) = some o ∧ o.2 + (s.craneProf c).separation ≤ x.1) ∧
    (∀ b, s.yieldTest c x = some b → (s.crane (other c)).state = .idle ∧ s.claimOf (other c) = none ∧
      ((s.crane (other c)).role = .rear → b = x.2 + (s.craneProf c).separation ∧ b ≤ (s.craneProf c).bays + 1) ∧
      ((s.crane (other c)).role = .front → b + (s.craneProf c).separation = x.1))) ∧
  (∀ (w : Work) (c : CraneNo) (p : Profile), (w.st.aisle (aisleOf c)).profile = some p →
    (w.st.crane c).state = .idle → w.st.claimOf c = none → ((w.decide c).st.crane c).state = .lead →
    (w.decide c).st.effectiveSpan (other c) = w.st.effectiveSpan (other c) ∧
    ((w.st.crane c).role = .front → ∃ x o, ((w.decide c).st.crane c).span = some x ∧
      w.st.effectiveSpan (other c) = some o ∧ x.2 + p.separation ≤ o.1) ∧
    ((w.st.crane c).role = .rear → ∃ x o, ((w.decide c).st.crane c).span = some x ∧
      w.st.effectiveSpan (other c) = some o ∧ o.2 + p.separation ≤ x.1))

/-- R128: place selection answers a candidate that passes its rail test: an EMPTY, unlocked location of the crane's aisle within
its reach, in a double-deep aisle a FAR one behind an EMPTY, unlocked NEAR, or a NEAR one before a FULL FAR; it answers none
only when there is none. R129: of the candidates that pass, no other has a smaller estimate from the start point, or the same
estimate and comes first by bay, level, LEFT before RIGHT, FAR before NEAR. R103, R88: a job is eligible for a crane exactly
when it is READY, of the crane's aisle, below the ceiling, of a kind the role may serve, with its location bays in the
reach, with outfeed room for a RETRIEVE, with urgency 0 or 1 under a DUE crane, and with its cycle span passing the plain test
of R92 or the test with a yield of R94, for its own destination or, where it has none, for some candidate. R101 and R127 give
place selection at a decision to a CLEARANCE job alone; that a job of another kind without a destination, which R19's table
never admits, is given one so is the model's choice (log entry 49). -/
def Obligations.PlaceSelectionTakesTheFirstRanked : Prop :=
  ∀ (s : State) (c : CraneNo),
    let p := s.craneProf c
    let x := s.crane c
    let free := fun (l : Loc) => s.loc l = { occ := .empty, locked := false }
    let reaches := fun (b : Nat) => x.role ≠ .absent ∧ b ≤ p.bays + 1 ∧
      (x.role = .front → b ≤ p.bays + 1 - p.separation) ∧ (x.role = .rear → p.separation ≤ b)
    let candidate := fun (l : Loc) => l.aisle = aisleOf c ∧ 1 ≤ l.bay ∧ l.bay ≤ p.bays ∧ 1 ≤ l.level ∧
      l.level ≤ p.levels ∧ reaches l.bay ∧ free l ∧ (p.doubleDeep = false → l.depth = .near) ∧
      (p.doubleDeep = true → l.depth = .far → free { l with depth := .near }) ∧
      (p.doubleDeep = true → l.depth = .near → ∃ t, (s.loc { l with depth := .far }).occ = .full t)
    let ranks := fun (l y : Loc) => l.bay < y.bay ∨ (l.bay = y.bay ∧ (l.level < y.level ∨ (l.level = y.level ∧
      ((l.side = .left ∧ y.side = .right) ∨ (l.side = y.side ∧ (l.depth = .far ∨ y.depth = .near))))))
    (∀ (start : Option Point) (ok : Loc → Bool),
      let estimate := fun (l : Loc) => fromPosition p start (l.bay, l.level)
      (s.selectPlace c start ok = none → ∀ l, candidate l → ok l = false) ∧
      (∀ l, s.selectPlace c start ok = some l → candidate l ∧ ok l = true ∧ ∀ y, candidate y → ok y = true →
        estimate l < estimate y ∨ (estimate l = estimate y ∧ ranks l y))) ∧
    (s.profiled → ∀ j : Job,
      let passes := fun (d : Place) => ∃ q, x.pos = some q ∧
        let lo := min q.1 (min (j.source.bay p) (d.bay p))
        let hi := max q.1 (max (j.source.bay p) (d.bay p))
        reaches lo ∧ reaches hi ∧ (x.role = .sole ∨
          (∃ o, s.effectiveSpan (other c) = some o ∧ (x.role = .front → hi + p.separation ≤ o.1) ∧
            (x.role = .rear → o.2 + p.separation ≤ lo)) ∨
          ((s.crane (other c)).state = .idle ∧ (s.crane (other c)).pos.isSome = true ∧
            s.claimOf (other c) = none ∧ (x.role = .front → hi + p.separation ≤ p.bays + 1) ∧
            (x.role = .rear → p.separation ≤ lo)))
      (s.eligible c j = true ↔ j.state = .ready ∧ j.aisle = aisleOf c ∧
        j.urgency < (s.aisle (aisleOf c)).ceiling ∧ (j.kind = .store → x.role ≠ .front) ∧
        (j.kind = .retrieve → x.role ≠ .rear) ∧
        (∀ l, (j.source = .loc l ∨ j.dest = some (.loc l)) → reaches l.bay) ∧
        (j.kind = .retrieve → (s.station j.aisle).outfeed.length + (s.station j.aisle).reserved.length <
          (s.prof j.aisle).outfeedCap) ∧
        (x.refStatus = .due → j.urgency ≤ 1) ∧ (∀ d, j.dest = some d → passes d) ∧
        (j.dest = none → ∃ l, candidate l ∧ passes (.loc l))))

/-! ## Runs -/

/-- R138, R139–R142: an accepted SUBMIT-RUN without a group and with a full job table adds the run's record, with every count
as admitted, and nothing else. With a free record and a start location that suits, its first child is live in the event. R138,
step 2: a run with a group whose positions in use lie below its block leaves every position of the block SPAWN-PENDING for it
while the job table is full, and the child it spawns takes the first one. -/
def Obligations.SubmitRunAdmitsAndSpawns : Prop :=
  ∀ (s : State) (tag : FrameTag) (body : List Byte) (r : Run), s.mayTakeRequest = true →
    s.checkRun body = .ok r →
    (r.toSpawn = r.count ∧ r.live = 0 ∧ r.completed = 0 ∧ r.failed = 0 ∧ r.skipped = 0 ∧ r.cause = none ∧
      1 ≤ r.window ∧ r.window ≤ 4 ∧ r.urgency ≤ 7 ∧ ∀ g, r.group = some g → g.last + 1 = g.next + r.count) ∧
    (r.group = none → s.lineFed → s.recordFree = false → exec (.submitRun tag body) s = .next (State.replied
      { s with rnu := { s.rnu with runs := s.rnu.runs ++ [r] } } (plainReply .submitRun tag .done))) ∧
    (∀ l d, r.group = none → s.recordFree = true → r.pointer = some l → s.suits r l = some d →
      ∃ t j, exec (.submitRun tag body) s = .next t ∧ t.answers = s.answers ++ [plainReply .submitRun tag .done] ∧
        j ∈ t.jtb.jobs ∧ j.id = s.newInternal ∧ j.run = some r.id ∧ j.kind = r.kind.jobKind ∧ j.aisle = r.aisle ∧
        j.source = r.kind.source l ∧ j.dest = some (r.kind.dest l) ∧ j.stamp = s.jtb.stamp ∧ j.expTag = 0) ∧
    (∀ (g : RunGroup) (x : Group), r.group = some g → s.group? g.id = some x → x.next ≤ g.next →
      (s.recordFree = false → ∃ t y, exec (.submitRun tag body) s = .next t ∧
        t.answers = s.answers ++ [plainReply .submitRun tag .done] ∧ r ∈ t.rnu.runs ∧ t.group? g.id = some y ∧
        y.count = x.count ∧
        ∀ k, 1 ≤ k → y.positions[k - 1]? =
          if g.next ≤ k ∧ k ≤ g.last then some (.spawnPending r.id) else x.positions[k - 1]?) ∧
      (∀ l d, s.recordFree = true → r.pointer = some l → s.suits r l = some d →
        ∃ t j y, exec (.submitRun tag body) s = .next t ∧ j ∈ t.jtb.jobs ∧ j.id = s.newInternal ∧ j.run = some r.id ∧
          j.group = some (g.id, g.next) ∧ t.group? g.id = some y ∧
          y.positions[g.next - 1]? = some (.known (some j.id) r.aisle false)))

/-- R144–R146: END-RUN without the withdraw flag stops a run that has live children with cause REQUEST and leaves them
live; a run without live children ends: its record is freed and RUN-ENDED is told. R145: with the flag, and no CARRY pending,
every child in WAITING, READY or STRANDED is withdrawn and every other left live, and the reply counts both; the run ends
when none is left. R144: every position still SPAWN-PENDING for the run becomes VOID. -/
def Obligations.EndRunStopsTheRun : Prop :=
  ∀ (s : State) (tag : FrameTag) (id : Nat) (r : Run), s.mayTakeRequest = true → id ≠ 0 →
    s.run? id = some r → r.cause = none →
    (s.lineFed → r.group = none → r.live ≠ 0 →
      exec (.endRun tag (some { id := id, withdraw := false })) s = .next (State.replied
        (s.mapRun id (fun x => { x with cause := some .request }))
        { kind := .request .endRun, tag := tag, result := .done,
          data := .counts 0 (s.childrenOf id).length })) ∧
    (s.lineFed → r.group = none → r.live = 0 → s.childrenOf id = [] → s.hli.reports.length < 256 →
      ∀ b, ∃ t, exec (.endRun tag (some { id := id, withdraw := b })) s = .next t ∧ t.run? id = none ∧
        t.jtb = s.jtb ∧ Report.runEnded id .request r.completed r.failed r.skipped r.toSpawn ∈ t.told) ∧
    (r.live = (s.childrenOf id).length → (s.jtb.jobs.map Job.id).Nodup →
      (∀ j ∈ s.jtb.jobs, j.run = some id → j.kind ≠ .clearance) → (∀ c, (s.crane c).carryPending = false) →
      let given := fun (j : Job) => j.state.unstarted || j.state.phase?.isSome
      ∃ t, exec (.endRun tag (some { id := id, withdraw := true })) s = .next t ∧
        t.answers = s.answers ++ [{ kind := .request .endRun, tag := tag, result := .done,
                                    data := .counts ((s.childrenOf id).filter given).length
                                      ((s.childrenOf id).filter (fun j => !given j)).length }] ∧
        (∀ j ∈ s.childrenOf id, given j = true → ∀ k, t.job? j.id = some k → k.run ≠ some id) ∧
        (∀ j ∈ s.childrenOf id, given j = false → (t.job? j.id).map Job.run = some (some id)) ∧
        ((∀ j ∈ s.childrenOf id, given j = true) → t.run? id = none) ∧
        ((∃ j ∈ s.childrenOf id, given j = false) → ∃ x, t.run? id = some x ∧ x.cause = some .request ∧
          x.live = ((s.childrenOf id).filter (fun j => !given j)).length ∧ x.toSpawn = r.toSpawn)) ∧
    (∀ (g : RunGroup) (x : Group), r.group = some g → s.group? g.id = some x →
      ∃ t, exec (.endRun tag (some { id := id, withdraw := false })) s = .next t ∧
        ∀ y, t.group? g.id = some y → ∀ k, 1 ≤ k → y.positions[k - 1]? =
          if g.next ≤ k ∧ k ≤ g.last ∧ x.positions[k - 1]? = some (.spawnPending id) then some .void
          else x.positions[k - 1]?)

/-- R142: a record-free notice that was given is taken once, and without one nothing is changed (log entry 8). With a free
record, the only run spawns its next child at its pointer when that location suits. -/
def Obligations.RecordFreeNoticeSpawns : Prop :=
  ∀ s : State,
    (s.jtb.freeNotices = 0 → exec .recordFreeNotice s = .next s) ∧
    (0 < s.jtb.freeNotices → ∃ t, exec .recordFreeNotice s = .next t ∧ t.jtb.freeNotices = s.jtb.freeNotices - 1 ∧
      ∀ r l d, s.rnu.runs = [r] → s.maySpawn r = true → r.pointer = some l → s.suits r l = some d →
        ∃ j ∈ t.jtb.jobs, j.id = s.newInternal ∧ j.run = some r.id ∧ j.source = r.kind.source l ∧
          j.dest = some (r.kind.dest l) ∧ j.stamp = s.jtb.stamp)

/-! ## Stations, the collector and groups -/

/-- R150, R152, R166, R167: an arrival joins the tail of its infeed with LOAD-ARRIVED told, when the aisle has a profile and the
FIFO has room. Every other arrival, and a malformed frame, is told as STATION-FAULT and changes no FIFO. A departure from a
RELEASING outfeed takes its head and ends the release, while the collector is not READY; one from any other outfeed is told
as UNEXPECTED-DEPARTURE and changes no outfeed. -/
def Obligations.LoadsArriveAndDepart : Prop :=
  (∀ (s : State) (tag : Tag) (mark : Bool), s.hli.ok → s.hli.reports.length < 256 →
    (∀ (a : AisleNo) (p : Profile), (s.aisle a).profile = some p → (s.station a).infeed.length < p.infeedCap →
      ∃ t, exec (.loadArrived a.val tag mark) s = .next t ∧
        (t.station a).infeed = (s.station a).infeed ++ [{ tag := tag, mark := mark }] ∧
        (∀ b, b ≠ a → (t.station b).infeed = (s.station b).infeed) ∧ Report.loadArrived a tag mark ∈ t.told) ∧
    (∀ (a : AisleNo) (p : Profile), (s.aisle a).profile = some p → p.infeedCap ≤ (s.station a).infeed.length →
      ∃ t, exec (.loadArrived a.val tag mark) s = .next t ∧ t.stu.stations = s.stu.stations ∧
        Report.stationFault (some a) .infeedFull ∈ t.told) ∧
    (∀ a : AisleNo, (s.aisle a).profile = none →
      ∃ t, exec (.loadArrived a.val tag mark) s = .next t ∧ t.stu.stations = s.stu.stations ∧
        Report.stationFault (some a) .noProfile ∈ t.told) ∧
    (∀ n, 8 ≤ n → ∃ t, exec (.loadArrived n tag mark) s = .next t ∧ t.stu.stations = s.stu.stations ∧
        Report.stationFault none .malformed ∈ t.told) ∧
    (∀ a : AisleNo, ∃ t, exec (.stationFrameDiscarded (.malformed (some a.val))) s = .next t ∧
        t.stu.stations = s.stu.stations ∧ Report.stationFault (some a) .malformed ∈ t.told)) ∧
  (∀ (s : State) (a : AisleNo),
    ((s.station a).releasing = true → s.stu.collector ≠ .ready →
      ∃ t, exec (.loadDeparted a.val) s = .next t ∧ (t.station a).outfeed = (s.station a).outfeed.tail ∧
        (t.station a).releasing = false ∧ t.stu.collector = s.stu.collector ∧
        (∀ b, b ≠ a → (t.station b).outfeed = (s.station b).outfeed) ∧
        (∀ b, (t.station b).infeed = (s.station b).infeed)) ∧
    ((s.station a).releasing = false → s.hli.reports.length < 256 →
      ∃ t, exec (.loadDeparted a.val) s = .next t ∧
        (∀ b, (t.station b).outfeed = (s.station b).outfeed ∧ (t.station b).releasing = (s.station b).releasing) ∧
        t.stu.collector = s.stu.collector ∧ Report.stationFault (some a) .unexpectedDeparture ∈ t.told))

/-- R151, R164, R165: the station link's first coming up sends RESYNC over empty stations, with the collector NOT-READY, also
where a station message came before it; with the stations as a reset leaves them nothing else is changed. A later coming up
changes nothing: that RESYNC is sent once, and that the model empties what came before, is its own choice (log entry 9).
COLLECTOR-READY makes the collector READY; with no outfeed RELEASING and a winner, RELEASE is sent at once: the winner's
outfeed is RELEASING, the collector BUSY, and a winner without a group moves the rotation start behind it. -/
def Obligations.CollectorReadyReleasesTheWinner : Prop :=
  (∀ s : State,
    (s.stu.linkUp = true → exec .stationLinkUp s = .next s) ∧
    (s.stu.linkUp = false → ∃ t, exec .stationLinkUp s = .next t ∧ t.stu.linkUp = true ∧
      t.stu.collector = .notReady ∧ t.stu.rotation = 0 ∧ Sent.station 0 .resync ∈ t.sent ∧
      ∀ a, (t.station a).infeed = [] ∧ (t.station a).outfeed = [] ∧ (t.station a).releasing = false) ∧
    (s.lineFed → s.stu.linkUp = false → (∀ a, s.station a = Station.reset) → s.stu.collector = .notReady →
      s.stu.rotation = 0 → exec .stationLinkUp s =
        .next { s with stu := { s.stu with linkUp := true }, sent := s.sent ++ [.station 0 .resync] })) ∧
  (∀ s : State, s.lineFed →
    (((∃ a, (s.station a).releasing = true) ∨ s.releaseWinner = none) →
      exec .collectorReady s = .next { s with stu := { s.stu with collector := .ready } }) ∧
    (∀ a u, (∀ b, (s.station b).releasing = false) → s.releaseWinner = some (a, u) →
      exec .collectorReady s = .next (State.sendOut (State.mapStation
        { s with stu := { s.stu with collector := .busy, rotation := if u then a + 1 else s.stu.rotation } }
        a (fun x => { x with releasing := true })) (.station 0 (.release a)))))

/-- R165: the winner of a release decision. A head that is the next release of the ACTIVE group goes first; without one, the
first unsequenced head from the rotation start on; a sequenced head whose turn has not come is never released. R161: next
release advances over RELEASED and VOID positions only, as far as they reach within the count. -/
def Obligations.TheWinnerIsNextOrUnsequenced : Prop :=
  (∀ s : State,
    let next := fun (a : AisleNo) => ∃ x k g rest, s.outHead a = some x ∧ s.groups = g :: rest ∧
      x.member = some (g.id, k) ∧ k = g.next
    let free := fun (a : AisleNo) => ∃ x, s.outHead a = some x ∧ x.member = none
    (∀ a, s.releaseWinner = some (a, false) → next a) ∧
    (∀ a, s.releaseWinner = some (a, true) → free a ∧ (∀ b, ¬ next b) ∧
      ∀ i j : Fin 8, s.stu.rotation + j = a → i < j → ¬ free (s.stu.rotation + i)) ∧
    (s.releaseWinner = none → ∀ a, ¬ next a ∧ ¬ free a)) ∧
  (∀ g : Group, 1 ≤ g.next → g.next ≤ g.count + 1 → g.positions.length = g.count →
    g.advanced = { g with next := g.advanced.next } ∧ g.next ≤ g.advanced.next ∧ g.advanced.next ≤ g.count + 1 ∧
    (∀ k, g.next ≤ k → k < g.advanced.next →
      g.positions[k - 1]? = some .released ∨ g.positions[k - 1]? = some .void) ∧
    (g.advanced.next ≤ g.count →
      g.positions[g.advanced.next - 1]? ≠ some .released ∧ g.positions[g.advanced.next - 1]? ≠ some .void))

/-- R158: OPEN-GROUP appends a record with its positions FREE, next release 1 and its window clamped to 1–16. R163:
GROUP-CANCEL removes its group's record and no other, so that the next of the opening order becomes ACTIVE, whose WAITING
members that R160 lets go hold GROUP no more. A member in WAITING or READY ends CANCELLED with cause GROUP-CANCELLED, one in
flight stays live without a group, no job, run or load is linked to the group any more, and GROUP-ENDED CANCELLED is told. -/
def Obligations.GroupsAreOpenedAndCancelled : Prop :=
  ∀ (s : State) (tag : FrameTag), s.mayTakeRequest = true →
    (∀ r : GroupReq, r.id ≠ 0 → 1 ≤ r.count → r.count ≤ 64 → s.group? r.id = none → s.groups.length < 16 →
      ∃ t, exec (.openGroup tag (some r)) s = .next t ∧
        t.answers = s.answers ++ [plainReply .openGroup tag .done] ∧
        t.groups = s.groups ++ [{ id := r.id, count := r.count, window := max 1 (min r.window 16), next := 1,
                                  positions := List.replicate r.count .free }] ∧
        t.jtb = s.jtb ∧ t.ltb = s.ltb ∧ t.cranes = s.cranes) ∧
    (∀ (id : Nat) (g : Group), id ≠ 0 → s.group? id = some g →
      ∃ t, exec (.groupCancel tag (some id)) s = .next t ∧
        t.answers = s.answers ++ [plainReply .groupCancel tag .done] ∧ t.group? id = none ∧
        (∀ j ∈ t.jtb.jobs, j.group.map Prod.fst ≠ some id) ∧
        (∀ r ∈ t.rnu.runs, r.group.map RunGroup.id ≠ some id) ∧
        (∀ a, ∀ x ∈ (t.station a).outfeed, x.member.map Prod.fst ≠ some id) ∧
        ((s.jtb.jobs.map Job.id).Nodup → (∀ j ∈ s.jtb.jobs, j.group ≠ none → j.kind = .retrieve) →
          t.groups = s.groups.filter (fun x => x.id != id) ∧
          (∀ j, s.job? j.id = some j → j.group.map Prod.fst = some id →
            (j.state = .waiting ∨ j.state = .ready →
              (j.id < 2147483648 → 2147483648 ≤ s.jtb.internalId → t.job? j.id = none) ∧
              (s.hli.reports.length + 4 * s.jtb.jobs.length ≤ 240 → ∃ e, Report.jobEnded e ∈ t.told ∧
                e.id = j.id ∧ e.outcome = .cancelled ∧ e.cause = some .groupCancelled)) ∧
            (j.state = .promised ∨ j.state = .lead ∨ j.state = .fetch ∨ j.state = .haul ∨ j.state = .place ∨
                (∃ ph, j.state = .stranded ph) →
              ∃ k, t.job? j.id = some k ∧ k.state.unstarted = false ∧ k.crane = j.crane ∧ k.group = none)) ∧
          (s.hli.reports.length + 4 * s.jtb.jobs.length ≤ 240 → Report.groupEnded id .cancelled ∈ t.told) ∧
          (∀ n, s.activeGroup.map Group.id = some id → t.activeGroup = some n →
            ∀ j k, s.job? j.id = some j → j.state = .waiting → j.group = some (n.id, k) → k < n.next + n.window →
              (∀ i, i + 1 < k → ∀ q, n.positions[i]? = some q → q = .void ∨ q = .released ∨
                ∃ h b placed, q = .known h b placed ∧ (b ≠ j.aisle ∨ placed = true)) →
              ∃ x, t.job? j.id = some x ∧ x.waits.group = false)))

/-- R154, R155: after an evaluation of an infeed's claim, of the STORE jobs of the aisle that are READY or WAITING exactly the
claimant holds no reason LOAD, where the ids of the table's jobs are distinct. Who the claimant is, with stamps up to
2,147,483,647: of an empty infeed nobody; otherwise the STORE of the aisle that is PROMISED, in LEAD or FETCH, or STRANDED in
FETCH (that FETCH is among them is the model's reading, log entry 15), with its head not yet removed by a resolution (log
entry 18); without one, of the unstarted ones, the oldest whose expected tag is the head's, else the oldest without an
expected tag, else nobody. -/
def Obligations.OnlyTheClaimantIsWithoutLoad : Prop :=
  (∀ (w : Work) (a : AisleNo), (w.st.jtb.jobs.map Job.id).Nodup →
    (∀ j ∈ w.st.jtb.jobs, j.state = .ready → j.waits.load = false) →
    ∀ j ∈ (w.evalClaim a).st.jtb.jobs, j.kind = .store → j.aisle = a → j.state.unstarted = true →
      (j.waits.load = false ↔ w.st.claimant a = some j.id)) ∧
  (∀ (s : State) (a : AisleNo), (∀ j ∈ s.jtb.jobs, j.stamp ≤ 2147483647) →
    let stores := fun (j : Job) => j ∈ s.jtb.jobs ∧ j.kind = .store ∧ j.aisle = a
    let holds := fun (j : Job) => stores j ∧ j.id ∉ s.jtb.headTaken ∧
      (j.state = .promised ∨ j.state = .lead ∨ j.state = .fetch ∨ j.state = .stranded .fetch)
    let tagged := fun (j : Job) => stores j ∧ j.state.unstarted = true ∧ j.expTag ≠ 0 ∧
      (s.station a).infeed.head?.map InLoad.tag = some j.expTag
    let untagged := fun (j : Job) => stores j ∧ j.state.unstarted = true ∧ j.expTag = 0
    let oldestOf := fun (p : Job → Prop) => ∃ j, p j ∧ s.claimant a = some j.id ∧ ∀ x, p x → j.stamp ≤ x.stamp
    ((s.station a).infeed = [] → s.claimant a = none) ∧
    ((s.station a).infeed ≠ [] →
      (∀ j, holds j → ∃ k, holds k ∧ s.claimant a = some k.id) ∧
      ((∀ j, ¬ holds j) →
        ((∃ j, tagged j) → oldestOf tagged) ∧
        ((∀ j, ¬ tagged j) → (∃ j, untagged j) → oldestOf untagged) ∧
        ((∀ j, ¬ tagged j) → (∀ j, ¬ untagged j) → s.claimant a = none))))
end

