-- ==== Sys2Proof/Laws/State.lean ====
section
/-! SUPPORT. One lemma for each field and each update of the state: what an update writes, and that it leaves every other field.
Each holds by `rfl` but for those that read back what was written in an indexed table. -/

namespace Sys2Proof.Machine

variable (s : State)

/-! ## mapCrane -/

@[simp] theorem State.mapCrane_now (c : CraneNo) (f : Crane → Crane) : (s.mapCrane c f).now = s.now := rfl
@[simp] theorem State.mapCrane_hli (c : CraneNo) (f : Crane → Crane) : (s.mapCrane c f).hli = s.hli := rfl
@[simp] theorem State.mapCrane_jtb (c : CraneNo) (f : Crane → Crane) : (s.mapCrane c f).jtb = s.jtb := rfl
@[simp] theorem State.mapCrane_rnu (c : CraneNo) (f : Crane → Crane) : (s.mapCrane c f).rnu = s.rnu := rfl
@[simp] theorem State.mapCrane_ltb (c : CraneNo) (f : Crane → Crane) : (s.mapCrane c f).ltb = s.ltb := rfl
@[simp] theorem State.mapCrane_aisles (c : CraneNo) (f : Crane → Crane) : (s.mapCrane c f).aisles = s.aisles := rfl
@[simp] theorem State.mapCrane_claims (c : CraneNo) (f : Crane → Crane) : (s.mapCrane c f).claims = s.claims := rfl
@[simp] theorem State.mapCrane_proving (c : CraneNo) (f : Crane → Crane) : (s.mapCrane c f).proving = s.proving := rfl
@[simp] theorem State.mapCrane_stu (c : CraneNo) (f : Crane → Crane) : (s.mapCrane c f).stu = s.stu := rfl
@[simp] theorem State.mapCrane_groups (c : CraneNo) (f : Crane → Crane) : (s.mapCrane c f).groups = s.groups := rfl
@[simp] theorem State.mapCrane_sent (c : CraneNo) (f : Crane → Crane) : (s.mapCrane c f).sent = s.sent := rfl
@[simp] theorem State.mapCrane_pending (c : CraneNo) (f : Crane → Crane) : (s.mapCrane c f).pending = s.pending := rfl
@[simp] theorem State.mapCrane_aisle (c : CraneNo) (f : Crane → Crane) (b : AisleNo) :
    (s.mapCrane c f).aisle b = s.aisle b := rfl
@[simp] theorem State.mapCrane_station (c : CraneNo) (f : Crane → Crane) (b : AisleNo) :
    (s.mapCrane c f).station b = s.station b := rfl
@[simp] theorem State.mapCrane_claimOf (c : CraneNo) (f : Crane → Crane) (d : CraneNo) :
    (s.mapCrane c f).claimOf d = s.claimOf d := rfl
@[simp] theorem State.mapCrane_provingOf (c : CraneNo) (f : Crane → Crane) (d : CraneNo) :
    (s.mapCrane c f).provingOf d = s.provingOf d := rfl
@[simp] theorem State.mapCrane_job_opt (c : CraneNo) (f : Crane → Crane) (i : JobId) :
    (s.mapCrane c f).job? i = s.job? i := rfl
@[simp] theorem State.mapCrane_run_opt (c : CraneNo) (f : Crane → Crane) (i : RunId) :
    (s.mapCrane c f).run? i = s.run? i := rfl
@[simp] theorem State.mapCrane_group_opt (c : CraneNo) (f : Crane → Crane) (i : GroupId) :
    (s.mapCrane c f).group? i = s.group? i := rfl
@[simp] theorem State.mapCrane_loc (c : CraneNo) (f : Crane → Crane) (m : Loc) : (s.mapCrane c f).loc m = s.loc m := rfl

/-! ## mapAisle -/

@[simp] theorem State.mapAisle_now (a : AisleNo) (f : Aisle → Aisle) : (s.mapAisle a f).now = s.now := rfl
@[simp] theorem State.mapAisle_hli (a : AisleNo) (f : Aisle → Aisle) : (s.mapAisle a f).hli = s.hli := rfl
@[simp] theorem State.mapAisle_jtb (a : AisleNo) (f : Aisle → Aisle) : (s.mapAisle a f).jtb = s.jtb := rfl
@[simp] theorem State.mapAisle_rnu (a : AisleNo) (f : Aisle → Aisle) : (s.mapAisle a f).rnu = s.rnu := rfl
@[simp] theorem State.mapAisle_ltb (a : AisleNo) (f : Aisle → Aisle) : (s.mapAisle a f).ltb = s.ltb := rfl
@[simp] theorem State.mapAisle_cranes (a : AisleNo) (f : Aisle → Aisle) : (s.mapAisle a f).cranes = s.cranes := rfl
@[simp] theorem State.mapAisle_claims (a : AisleNo) (f : Aisle → Aisle) : (s.mapAisle a f).claims = s.claims := rfl
@[simp] theorem State.mapAisle_proving (a : AisleNo) (f : Aisle → Aisle) : (s.mapAisle a f).proving = s.proving := rfl
@[simp] theorem State.mapAisle_stu (a : AisleNo) (f : Aisle → Aisle) : (s.mapAisle a f).stu = s.stu := rfl
@[simp] theorem State.mapAisle_groups (a : AisleNo) (f : Aisle → Aisle) : (s.mapAisle a f).groups = s.groups := rfl
@[simp] theorem State.mapAisle_sent (a : AisleNo) (f : Aisle → Aisle) : (s.mapAisle a f).sent = s.sent := rfl
@[simp] theorem State.mapAisle_pending (a : AisleNo) (f : Aisle → Aisle) : (s.mapAisle a f).pending = s.pending := rfl
@[simp] theorem State.mapAisle_crane (a : AisleNo) (f : Aisle → Aisle) (d : CraneNo) :
    (s.mapAisle a f).crane d = s.crane d := rfl
@[simp] theorem State.mapAisle_station (a : AisleNo) (f : Aisle → Aisle) (b : AisleNo) :
    (s.mapAisle a f).station b = s.station b := rfl
@[simp] theorem State.mapAisle_claimOf (a : AisleNo) (f : Aisle → Aisle) (d : CraneNo) :
    (s.mapAisle a f).claimOf d = s.claimOf d := rfl
@[simp] theorem State.mapAisle_provingOf (a : AisleNo) (f : Aisle → Aisle) (d : CraneNo) :
    (s.mapAisle a f).provingOf d = s.provingOf d := rfl
@[simp] theorem State.mapAisle_job_opt (a : AisleNo) (f : Aisle → Aisle) (i : JobId) :
    (s.mapAisle a f).job? i = s.job? i := rfl
@[simp] theorem State.mapAisle_run_opt (a : AisleNo) (f : Aisle → Aisle) (i : RunId) :
    (s.mapAisle a f).run? i = s.run? i := rfl
@[simp] theorem State.mapAisle_group_opt (a : AisleNo) (f : Aisle → Aisle) (i : GroupId) :
    (s.mapAisle a f).group? i = s.group? i := rfl
@[simp] theorem State.mapAisle_loc (a : AisleNo) (f : Aisle → Aisle) (m : Loc) : (s.mapAisle a f).loc m = s.loc m := rfl

/-! ## mapStation -/

@[simp] theorem State.mapStation_now (a : AisleNo) (f : Station → Station) : (s.mapStation a f).now = s.now := rfl
@[simp] theorem State.mapStation_hli (a : AisleNo) (f : Station → Station) : (s.mapStation a f).hli = s.hli := rfl
@[simp] theorem State.mapStation_jtb (a : AisleNo) (f : Station → Station) : (s.mapStation a f).jtb = s.jtb := rfl
@[simp] theorem State.mapStation_rnu (a : AisleNo) (f : Station → Station) : (s.mapStation a f).rnu = s.rnu := rfl
@[simp] theorem State.mapStation_ltb (a : AisleNo) (f : Station → Station) : (s.mapStation a f).ltb = s.ltb := rfl
@[simp] theorem State.mapStation_aisles (a : AisleNo) (f : Station → Station) :
    (s.mapStation a f).aisles = s.aisles := rfl
@[simp] theorem State.mapStation_cranes (a : AisleNo) (f : Station → Station) :
    (s.mapStation a f).cranes = s.cranes := rfl
@[simp] theorem State.mapStation_claims (a : AisleNo) (f : Station → Station) :
    (s.mapStation a f).claims = s.claims := rfl
@[simp] theorem State.mapStation_proving (a : AisleNo) (f : Station → Station) :
    (s.mapStation a f).proving = s.proving := rfl
@[simp] theorem State.mapStation_groups (a : AisleNo) (f : Station → Station) :
    (s.mapStation a f).groups = s.groups := rfl
@[simp] theorem State.mapStation_sent (a : AisleNo) (f : Station → Station) : (s.mapStation a f).sent = s.sent := rfl
@[simp] theorem State.mapStation_pending (a : AisleNo) (f : Station → Station) :
    (s.mapStation a f).pending = s.pending := rfl
@[simp] theorem State.mapStation_crane (a : AisleNo) (f : Station → Station) (d : CraneNo) :
    (s.mapStation a f).crane d = s.crane d := rfl
@[simp] theorem State.mapStation_aisle (a : AisleNo) (f : Station → Station) (b : AisleNo) :
    (s.mapStation a f).aisle b = s.aisle b := rfl
@[simp] theorem State.mapStation_claimOf (a : AisleNo) (f : Station → Station) (d : CraneNo) :
    (s.mapStation a f).claimOf d = s.claimOf d := rfl
@[simp] theorem State.mapStation_provingOf (a : AisleNo) (f : Station → Station) (d : CraneNo) :
    (s.mapStation a f).provingOf d = s.provingOf d := rfl
@[simp] theorem State.mapStation_job_opt (a : AisleNo) (f : Station → Station) (i : JobId) :
    (s.mapStation a f).job? i = s.job? i := rfl
@[simp] theorem State.mapStation_run_opt (a : AisleNo) (f : Station → Station) (i : RunId) :
    (s.mapStation a f).run? i = s.run? i := rfl
@[simp] theorem State.mapStation_group_opt (a : AisleNo) (f : Station → Station) (i : GroupId) :
    (s.mapStation a f).group? i = s.group? i := rfl
@[simp] theorem State.mapStation_loc (a : AisleNo) (f : Station → Station) (m : Loc) :
    (s.mapStation a f).loc m = s.loc m := rfl

/-! ## setClaim -/

@[simp] theorem State.setClaim_now (c : CraneNo) (x : Option Span) : (s.setClaim c x).now = s.now := rfl
@[simp] theorem State.setClaim_hli (c : CraneNo) (x : Option Span) : (s.setClaim c x).hli = s.hli := rfl
@[simp] theorem State.setClaim_jtb (c : CraneNo) (x : Option Span) : (s.setClaim c x).jtb = s.jtb := rfl
@[simp] theorem State.setClaim_rnu (c : CraneNo) (x : Option Span) : (s.setClaim c x).rnu = s.rnu := rfl
@[simp] theorem State.setClaim_ltb (c : CraneNo) (x : Option Span) : (s.setClaim c x).ltb = s.ltb := rfl
@[simp] theorem State.setClaim_aisles (c : CraneNo) (x : Option Span) : (s.setClaim c x).aisles = s.aisles := rfl
@[simp] theorem State.setClaim_cranes (c : CraneNo) (x : Option Span) : (s.setClaim c x).cranes = s.cranes := rfl
@[simp] theorem State.setClaim_proving (c : CraneNo) (x : Option Span) : (s.setClaim c x).proving = s.proving := rfl
@[simp] theorem State.setClaim_stu (c : CraneNo) (x : Option Span) : (s.setClaim c x).stu = s.stu := rfl
@[simp] theorem State.setClaim_groups (c : CraneNo) (x : Option Span) : (s.setClaim c x).groups = s.groups := rfl
@[simp] theorem State.setClaim_sent (c : CraneNo) (x : Option Span) : (s.setClaim c x).sent = s.sent := rfl
@[simp] theorem State.setClaim_pending (c : CraneNo) (x : Option Span) : (s.setClaim c x).pending = s.pending := rfl
@[simp] theorem State.setClaim_crane (c : CraneNo) (x : Option Span) (d : CraneNo) :
    (s.setClaim c x).crane d = s.crane d := rfl
@[simp] theorem State.setClaim_aisle (c : CraneNo) (x : Option Span) (b : AisleNo) :
    (s.setClaim c x).aisle b = s.aisle b := rfl
@[simp] theorem State.setClaim_station (c : CraneNo) (x : Option Span) (b : AisleNo) :
    (s.setClaim c x).station b = s.station b := rfl
@[simp] theorem State.setClaim_provingOf (c : CraneNo) (x : Option Span) (d : CraneNo) :
    (s.setClaim c x).provingOf d = s.provingOf d := rfl
@[simp] theorem State.setClaim_job_opt (c : CraneNo) (x : Option Span) (i : JobId) :
    (s.setClaim c x).job? i = s.job? i := rfl
@[simp] theorem State.setClaim_run_opt (c : CraneNo) (x : Option Span) (i : RunId) :
    (s.setClaim c x).run? i = s.run? i := rfl
@[simp] theorem State.setClaim_group_opt (c : CraneNo) (x : Option Span) (i : GroupId) :
    (s.setClaim c x).group? i = s.group? i := rfl
@[simp] theorem State.setClaim_loc (c : CraneNo) (x : Option Span) (m : Loc) : (s.setClaim c x).loc m = s.loc m := rfl

/-! ## setProving -/

@[simp] theorem State.setProving_now (c : CraneNo) (p : Proving) : (s.setProving c p).now = s.now := rfl
@[simp] theorem State.setProving_hli (c : CraneNo) (p : Proving) : (s.setProving c p).hli = s.hli := rfl
@[simp] theorem State.setProving_jtb (c : CraneNo) (p : Proving) : (s.setProving c p).jtb = s.jtb := rfl
@[simp] theorem State.setProving_rnu (c : CraneNo) (p : Proving) : (s.setProving c p).rnu = s.rnu := rfl
@[simp] theorem State.setProving_ltb (c : CraneNo) (p : Proving) : (s.setProving c p).ltb = s.ltb := rfl
@[simp] theorem State.setProving_aisles (c : CraneNo) (p : Proving) : (s.setProving c p).aisles = s.aisles := rfl
@[simp] theorem State.setProving_cranes (c : CraneNo) (p : Proving) : (s.setProving c p).cranes = s.cranes := rfl
@[simp] theorem State.setProving_claims (c : CraneNo) (p : Proving) : (s.setProving c p).claims = s.claims := rfl
@[simp] theorem State.setProving_stu (c : CraneNo) (p : Proving) : (s.setProving c p).stu = s.stu := rfl
@[simp] theorem State.setProving_groups (c : CraneNo) (p : Proving) : (s.setProving c p).groups = s.groups := rfl
@[simp] theorem State.setProving_sent (c : CraneNo) (p : Proving) : (s.setProving c p).sent = s.sent := rfl
@[simp] theorem State.setProving_pending (c : CraneNo) (p : Proving) : (s.setProving c p).pending = s.pending := rfl
@[simp] theorem State.setProving_crane (c : CraneNo) (p : Proving) (d : CraneNo) :
    (s.setProving c p).crane d = s.crane d := rfl
@[simp] theorem State.setProving_aisle (c : CraneNo) (p : Proving) (b : AisleNo) :
    (s.setProving c p).aisle b = s.aisle b := rfl
@[simp] theorem State.setProving_station (c : CraneNo) (p : Proving) (b : AisleNo) :
    (s.setProving c p).station b = s.station b := rfl
@[simp] theorem State.setProving_claimOf (c : CraneNo) (p : Proving) (d : CraneNo) :
    (s.setProving c p).claimOf d = s.claimOf d := rfl
@[simp] theorem State.setProving_job_opt (c : CraneNo) (p : Proving) (i : JobId) :
    (s.setProving c p).job? i = s.job? i := rfl
@[simp] theorem State.setProving_run_opt (c : CraneNo) (p : Proving) (i : RunId) :
    (s.setProving c p).run? i = s.run? i := rfl
@[simp] theorem State.setProving_group_opt (c : CraneNo) (p : Proving) (i : GroupId) :
    (s.setProving c p).group? i = s.group? i := rfl
@[simp] theorem State.setProving_loc (c : CraneNo) (p : Proving) (m : Loc) : (s.setProving c p).loc m = s.loc m := rfl

/-! ## mapJob -/

@[simp] theorem State.mapJob_now (id : JobId) (f : Job → Job) : (s.mapJob id f).now = s.now := rfl
@[simp] theorem State.mapJob_hli (id : JobId) (f : Job → Job) : (s.mapJob id f).hli = s.hli := rfl
@[simp] theorem State.mapJob_rnu (id : JobId) (f : Job → Job) : (s.mapJob id f).rnu = s.rnu := rfl
@[simp] theorem State.mapJob_ltb (id : JobId) (f : Job → Job) : (s.mapJob id f).ltb = s.ltb := rfl
@[simp] theorem State.mapJob_aisles (id : JobId) (f : Job → Job) : (s.mapJob id f).aisles = s.aisles := rfl
@[simp] theorem State.mapJob_cranes (id : JobId) (f : Job → Job) : (s.mapJob id f).cranes = s.cranes := rfl
@[simp] theorem State.mapJob_claims (id : JobId) (f : Job → Job) : (s.mapJob id f).claims = s.claims := rfl
@[simp] theorem State.mapJob_proving (id : JobId) (f : Job → Job) : (s.mapJob id f).proving = s.proving := rfl
@[simp] theorem State.mapJob_stu (id : JobId) (f : Job → Job) : (s.mapJob id f).stu = s.stu := rfl
@[simp] theorem State.mapJob_groups (id : JobId) (f : Job → Job) : (s.mapJob id f).groups = s.groups := rfl
@[simp] theorem State.mapJob_sent (id : JobId) (f : Job → Job) : (s.mapJob id f).sent = s.sent := rfl
@[simp] theorem State.mapJob_pending (id : JobId) (f : Job → Job) : (s.mapJob id f).pending = s.pending := rfl
@[simp] theorem State.mapJob_crane (id : JobId) (f : Job → Job) (d : CraneNo) : (s.mapJob id f).crane d = s.crane d := rfl
@[simp] theorem State.mapJob_aisle (id : JobId) (f : Job → Job) (b : AisleNo) : (s.mapJob id f).aisle b = s.aisle b := rfl
@[simp] theorem State.mapJob_station (id : JobId) (f : Job → Job) (b : AisleNo) :
    (s.mapJob id f).station b = s.station b := rfl
@[simp] theorem State.mapJob_claimOf (id : JobId) (f : Job → Job) (d : CraneNo) :
    (s.mapJob id f).claimOf d = s.claimOf d := rfl
@[simp] theorem State.mapJob_provingOf (id : JobId) (f : Job → Job) (d : CraneNo) :
    (s.mapJob id f).provingOf d = s.provingOf d := rfl
@[simp] theorem State.mapJob_run_opt (id : JobId) (f : Job → Job) (i : RunId) : (s.mapJob id f).run? i = s.run? i := rfl
@[simp] theorem State.mapJob_group_opt (id : JobId) (f : Job → Job) (i : GroupId) :
    (s.mapJob id f).group? i = s.group? i := rfl
@[simp] theorem State.mapJob_loc (id : JobId) (f : Job → Job) (m : Loc) : (s.mapJob id f).loc m = s.loc m := rfl

/-! ## mapRun -/

@[simp] theorem State.mapRun_now (id : RunId) (f : Run → Run) : (s.mapRun id f).now = s.now := rfl
@[simp] theorem State.mapRun_hli (id : RunId) (f : Run → Run) : (s.mapRun id f).hli = s.hli := rfl
@[simp] theorem State.mapRun_jtb (id : RunId) (f : Run → Run) : (s.mapRun id f).jtb = s.jtb := rfl
@[simp] theorem State.mapRun_ltb (id : RunId) (f : Run → Run) : (s.mapRun id f).ltb = s.ltb := rfl
@[simp] theorem State.mapRun_aisles (id : RunId) (f : Run → Run) : (s.mapRun id f).aisles = s.aisles := rfl
@[simp] theorem State.mapRun_cranes (id : RunId) (f : Run → Run) : (s.mapRun id f).cranes = s.cranes := rfl
@[simp] theorem State.mapRun_claims (id : RunId) (f : Run → Run) : (s.mapRun id f).claims = s.claims := rfl
@[simp] theorem State.mapRun_proving (id : RunId) (f : Run → Run) : (s.mapRun id f).proving = s.proving := rfl
@[simp] theorem State.mapRun_stu (id : RunId) (f : Run → Run) : (s.mapRun id f).stu = s.stu := rfl
@[simp] theorem State.mapRun_groups (id : RunId) (f : Run → Run) : (s.mapRun id f).groups = s.groups := rfl
@[simp] theorem State.mapRun_sent (id : RunId) (f : Run → Run) : (s.mapRun id f).sent = s.sent := rfl
@[simp] theorem State.mapRun_pending (id : RunId) (f : Run → Run) : (s.mapRun id f).pending = s.pending := rfl
@[simp] theorem State.mapRun_crane (id : RunId) (f : Run → Run) (d : CraneNo) : (s.mapRun id f).crane d = s.crane d := rfl
@[simp] theorem State.mapRun_aisle (id : RunId) (f : Run → Run) (b : AisleNo) : (s.mapRun id f).aisle b = s.aisle b := rfl
@[simp] theorem State.mapRun_station (id : RunId) (f : Run → Run) (b : AisleNo) :
    (s.mapRun id f).station b = s.station b := rfl
@[simp] theorem State.mapRun_claimOf (id : RunId) (f : Run → Run) (d : CraneNo) :
    (s.mapRun id f).claimOf d = s.claimOf d := rfl
@[simp] theorem State.mapRun_provingOf (id : RunId) (f : Run → Run) (d : CraneNo) :
    (s.mapRun id f).provingOf d = s.provingOf d := rfl
@[simp] theorem State.mapRun_job_opt (id : RunId) (f : Run → Run) (i : JobId) : (s.mapRun id f).job? i = s.job? i := rfl
@[simp] theorem State.mapRun_group_opt (id : RunId) (f : Run → Run) (i : GroupId) :
    (s.mapRun id f).group? i = s.group? i := rfl
@[simp] theorem State.mapRun_loc (id : RunId) (f : Run → Run) (m : Loc) : (s.mapRun id f).loc m = s.loc m := rfl

/-! ## mapGroup -/

@[simp] theorem State.mapGroup_now (id : GroupId) (f : Group → Group) : (s.mapGroup id f).now = s.now := rfl
@[simp] theorem State.mapGroup_hli (id : GroupId) (f : Group → Group) : (s.mapGroup id f).hli = s.hli := rfl
@[simp] theorem State.mapGroup_jtb (id : GroupId) (f : Group → Group) : (s.mapGroup id f).jtb = s.jtb := rfl
@[simp] theorem State.mapGroup_rnu (id : GroupId) (f : Group → Group) : (s.mapGroup id f).rnu = s.rnu := rfl
@[simp] theorem State.mapGroup_ltb (id : GroupId) (f : Group → Group) : (s.mapGroup id f).ltb = s.ltb := rfl
@[simp] theorem State.mapGroup_aisles (id : GroupId) (f : Group → Group) : (s.mapGroup id f).aisles = s.aisles := rfl
@[simp] theorem State.mapGroup_cranes (id : GroupId) (f : Group → Group) : (s.mapGroup id f).cranes = s.cranes := rfl
@[simp] theorem State.mapGroup_claims (id : GroupId) (f : Group → Group) : (s.mapGroup id f).claims = s.claims := rfl
@[simp] theorem State.mapGroup_proving (id : GroupId) (f : Group → Group) : (s.mapGroup id f).proving = s.proving := rfl
@[simp] theorem State.mapGroup_stu (id : GroupId) (f : Group → Group) : (s.mapGroup id f).stu = s.stu := rfl
@[simp] theorem State.mapGroup_sent (id : GroupId) (f : Group → Group) : (s.mapGroup id f).sent = s.sent := rfl
@[simp] theorem State.mapGroup_pending (id : GroupId) (f : Group → Group) : (s.mapGroup id f).pending = s.pending := rfl
@[simp] theorem State.mapGroup_crane (id : GroupId) (f : Group → Group) (d : CraneNo) :
    (s.mapGroup id f).crane d = s.crane d := rfl
@[simp] theorem State.mapGroup_aisle (id : GroupId) (f : Group → Group) (b : AisleNo) :
    (s.mapGroup id f).aisle b = s.aisle b := rfl
@[simp] theorem State.mapGroup_station (id : GroupId) (f : Group → Group) (b : AisleNo) :
    (s.mapGroup id f).station b = s.station b := rfl
@[simp] theorem State.mapGroup_claimOf (id : GroupId) (f : Group → Group) (d : CraneNo) :
    (s.mapGroup id f).claimOf d = s.claimOf d := rfl
@[simp] theorem State.mapGroup_provingOf (id : GroupId) (f : Group → Group) (d : CraneNo) :
    (s.mapGroup id f).provingOf d = s.provingOf d := rfl
@[simp] theorem State.mapGroup_job_opt (id : GroupId) (f : Group → Group) (i : JobId) :
    (s.mapGroup id f).job? i = s.job? i := rfl
@[simp] theorem State.mapGroup_run_opt (id : GroupId) (f : Group → Group) (i : RunId) :
    (s.mapGroup id f).run? i = s.run? i := rfl
@[simp] theorem State.mapGroup_loc (id : GroupId) (f : Group → Group) (m : Loc) : (s.mapGroup id f).loc m = s.loc m := rfl

/-! ## setLoc -/

@[simp] theorem State.setLoc_now (l : Loc) (r : LocRec) : (s.setLoc l r).now = s.now := rfl
@[simp] theorem State.setLoc_hli (l : Loc) (r : LocRec) : (s.setLoc l r).hli = s.hli := rfl
@[simp] theorem State.setLoc_jtb (l : Loc) (r : LocRec) : (s.setLoc l r).jtb = s.jtb := rfl
@[simp] theorem State.setLoc_rnu (l : Loc) (r : LocRec) : (s.setLoc l r).rnu = s.rnu := rfl
@[simp] theorem State.setLoc_aisles (l : Loc) (r : LocRec) : (s.setLoc l r).aisles = s.aisles := rfl
@[simp] theorem State.setLoc_cranes (l : Loc) (r : LocRec) : (s.setLoc l r).cranes = s.cranes := rfl
@[simp] theorem State.setLoc_claims (l : Loc) (r : LocRec) : (s.setLoc l r).claims = s.claims := rfl
@[simp] theorem State.setLoc_proving (l : Loc) (r : LocRec) : (s.setLoc l r).proving = s.proving := rfl
@[simp] theorem State.setLoc_stu (l : Loc) (r : LocRec) : (s.setLoc l r).stu = s.stu := rfl
@[simp] theorem State.setLoc_groups (l : Loc) (r : LocRec) : (s.setLoc l r).groups = s.groups := rfl
@[simp] theorem State.setLoc_sent (l : Loc) (r : LocRec) : (s.setLoc l r).sent = s.sent := rfl
@[simp] theorem State.setLoc_pending (l : Loc) (r : LocRec) : (s.setLoc l r).pending = s.pending := rfl
@[simp] theorem State.setLoc_crane (l : Loc) (r : LocRec) (d : CraneNo) : (s.setLoc l r).crane d = s.crane d := rfl
@[simp] theorem State.setLoc_aisle (l : Loc) (r : LocRec) (b : AisleNo) : (s.setLoc l r).aisle b = s.aisle b := rfl
@[simp] theorem State.setLoc_station (l : Loc) (r : LocRec) (b : AisleNo) : (s.setLoc l r).station b = s.station b := rfl
@[simp] theorem State.setLoc_claimOf (l : Loc) (r : LocRec) (d : CraneNo) : (s.setLoc l r).claimOf d = s.claimOf d := rfl
@[simp] theorem State.setLoc_provingOf (l : Loc) (r : LocRec) (d : CraneNo) :
    (s.setLoc l r).provingOf d = s.provingOf d := rfl
@[simp] theorem State.setLoc_job_opt (l : Loc) (r : LocRec) (i : JobId) : (s.setLoc l r).job? i = s.job? i := rfl
@[simp] theorem State.setLoc_run_opt (l : Loc) (r : LocRec) (i : RunId) : (s.setLoc l r).run? i = s.run? i := rfl
@[simp] theorem State.setLoc_group_opt (l : Loc) (r : LocRec) (i : GroupId) : (s.setLoc l r).group? i = s.group? i := rfl

/-! ## sendOut -/

@[simp] theorem State.sendOut_now (x : Sent) : (s.sendOut x).now = s.now := rfl
@[simp] theorem State.sendOut_hli (x : Sent) : (s.sendOut x).hli = s.hli := rfl
@[simp] theorem State.sendOut_jtb (x : Sent) : (s.sendOut x).jtb = s.jtb := rfl
@[simp] theorem State.sendOut_rnu (x : Sent) : (s.sendOut x).rnu = s.rnu := rfl
@[simp] theorem State.sendOut_ltb (x : Sent) : (s.sendOut x).ltb = s.ltb := rfl
@[simp] theorem State.sendOut_aisles (x : Sent) : (s.sendOut x).aisles = s.aisles := rfl
@[simp] theorem State.sendOut_cranes (x : Sent) : (s.sendOut x).cranes = s.cranes := rfl
@[simp] theorem State.sendOut_claims (x : Sent) : (s.sendOut x).claims = s.claims := rfl
@[simp] theorem State.sendOut_proving (x : Sent) : (s.sendOut x).proving = s.proving := rfl
@[simp] theorem State.sendOut_stu (x : Sent) : (s.sendOut x).stu = s.stu := rfl
@[simp] theorem State.sendOut_groups (x : Sent) : (s.sendOut x).groups = s.groups := rfl
@[simp] theorem State.sendOut_pending (x : Sent) : (s.sendOut x).pending = s.pending := rfl
@[simp] theorem State.sendOut_crane (x : Sent) (d : CraneNo) : (s.sendOut x).crane d = s.crane d := rfl
@[simp] theorem State.sendOut_aisle (x : Sent) (b : AisleNo) : (s.sendOut x).aisle b = s.aisle b := rfl
@[simp] theorem State.sendOut_station (x : Sent) (b : AisleNo) : (s.sendOut x).station b = s.station b := rfl
@[simp] theorem State.sendOut_claimOf (x : Sent) (d : CraneNo) : (s.sendOut x).claimOf d = s.claimOf d := rfl
@[simp] theorem State.sendOut_provingOf (x : Sent) (d : CraneNo) : (s.sendOut x).provingOf d = s.provingOf d := rfl
@[simp] theorem State.sendOut_job_opt (x : Sent) (i : JobId) : (s.sendOut x).job? i = s.job? i := rfl
@[simp] theorem State.sendOut_run_opt (x : Sent) (i : RunId) : (s.sendOut x).run? i = s.run? i := rfl
@[simp] theorem State.sendOut_group_opt (x : Sent) (i : GroupId) : (s.sendOut x).group? i = s.group? i := rfl
@[simp] theorem State.sendOut_loc (x : Sent) (m : Loc) : (s.sendOut x).loc m = s.loc m := rfl

/-! ## reported -/

@[simp] theorem State.reported_now (r : Report) : (s.reported r).now = s.now := rfl
@[simp] theorem State.reported_jtb (r : Report) : (s.reported r).jtb = s.jtb := rfl
@[simp] theorem State.reported_rnu (r : Report) : (s.reported r).rnu = s.rnu := rfl
@[simp] theorem State.reported_ltb (r : Report) : (s.reported r).ltb = s.ltb := rfl
@[simp] theorem State.reported_aisles (r : Report) : (s.reported r).aisles = s.aisles := rfl
@[simp] theorem State.reported_cranes (r : Report) : (s.reported r).cranes = s.cranes := rfl
@[simp] theorem State.reported_claims (r : Report) : (s.reported r).claims = s.claims := rfl
@[simp] theorem State.reported_proving (r : Report) : (s.reported r).proving = s.proving := rfl
@[simp] theorem State.reported_stu (r : Report) : (s.reported r).stu = s.stu := rfl
@[simp] theorem State.reported_groups (r : Report) : (s.reported r).groups = s.groups := rfl
@[simp] theorem State.reported_sent (r : Report) : (s.reported r).sent = s.sent := rfl
@[simp] theorem State.reported_pending (r : Report) : (s.reported r).pending = s.pending := rfl
@[simp] theorem State.reported_crane (r : Report) (d : CraneNo) : (s.reported r).crane d = s.crane d := rfl
@[simp] theorem State.reported_aisle (r : Report) (b : AisleNo) : (s.reported r).aisle b = s.aisle b := rfl
@[simp] theorem State.reported_station (r : Report) (b : AisleNo) : (s.reported r).station b = s.station b := rfl
@[simp] theorem State.reported_claimOf (r : Report) (d : CraneNo) : (s.reported r).claimOf d = s.claimOf d := rfl
@[simp] theorem State.reported_provingOf (r : Report) (d : CraneNo) : (s.reported r).provingOf d = s.provingOf d := rfl
@[simp] theorem State.reported_job_opt (r : Report) (i : JobId) : (s.reported r).job? i = s.job? i := rfl
@[simp] theorem State.reported_run_opt (r : Report) (i : RunId) : (s.reported r).run? i = s.run? i := rfl
@[simp] theorem State.reported_group_opt (r : Report) (i : GroupId) : (s.reported r).group? i = s.group? i := rfl
@[simp] theorem State.reported_loc (r : Report) (m : Loc) : (s.reported r).loc m = s.loc m := rfl

/-! ## pushReply -/

@[simp] theorem State.pushReply_now (r : Reply) : (s.pushReply r).now = s.now := rfl
@[simp] theorem State.pushReply_jtb (r : Reply) : (s.pushReply r).jtb = s.jtb := rfl
@[simp] theorem State.pushReply_rnu (r : Reply) : (s.pushReply r).rnu = s.rnu := rfl
@[simp] theorem State.pushReply_ltb (r : Reply) : (s.pushReply r).ltb = s.ltb := rfl
@[simp] theorem State.pushReply_aisles (r : Reply) : (s.pushReply r).aisles = s.aisles := rfl
@[simp] theorem State.pushReply_cranes (r : Reply) : (s.pushReply r).cranes = s.cranes := rfl
@[simp] theorem State.pushReply_claims (r : Reply) : (s.pushReply r).claims = s.claims := rfl
@[simp] theorem State.pushReply_proving (r : Reply) : (s.pushReply r).proving = s.proving := rfl
@[simp] theorem State.pushReply_stu (r : Reply) : (s.pushReply r).stu = s.stu := rfl
@[simp] theorem State.pushReply_groups (r : Reply) : (s.pushReply r).groups = s.groups := rfl
@[simp] theorem State.pushReply_sent (r : Reply) : (s.pushReply r).sent = s.sent := rfl
@[simp] theorem State.pushReply_pending (r : Reply) : (s.pushReply r).pending = s.pending := rfl
@[simp] theorem State.pushReply_crane (r : Reply) (d : CraneNo) : (s.pushReply r).crane d = s.crane d := rfl
@[simp] theorem State.pushReply_aisle (r : Reply) (b : AisleNo) : (s.pushReply r).aisle b = s.aisle b := rfl
@[simp] theorem State.pushReply_station (r : Reply) (b : AisleNo) : (s.pushReply r).station b = s.station b := rfl
@[simp] theorem State.pushReply_claimOf (r : Reply) (d : CraneNo) : (s.pushReply r).claimOf d = s.claimOf d := rfl
@[simp] theorem State.pushReply_provingOf (r : Reply) (d : CraneNo) : (s.pushReply r).provingOf d = s.provingOf d := rfl
@[simp] theorem State.pushReply_job_opt (r : Reply) (i : JobId) : (s.pushReply r).job? i = s.job? i := rfl
@[simp] theorem State.pushReply_run_opt (r : Reply) (i : RunId) : (s.pushReply r).run? i = s.run? i := rfl
@[simp] theorem State.pushReply_group_opt (r : Reply) (i : GroupId) : (s.pushReply r).group? i = s.group? i := rfl
@[simp] theorem State.pushReply_loc (r : Reply) (m : Loc) : (s.pushReply r).loc m = s.loc m := rfl

/-! ## withInput -/

@[simp] theorem State.withInput_now (xs : List InEntry) : (s.withInput xs).now = s.now := rfl
@[simp] theorem State.withInput_jtb (xs : List InEntry) : (s.withInput xs).jtb = s.jtb := rfl
@[simp] theorem State.withInput_rnu (xs : List InEntry) : (s.withInput xs).rnu = s.rnu := rfl
@[simp] theorem State.withInput_ltb (xs : List InEntry) : (s.withInput xs).ltb = s.ltb := rfl
@[simp] theorem State.withInput_aisles (xs : List InEntry) : (s.withInput xs).aisles = s.aisles := rfl
@[simp] theorem State.withInput_cranes (xs : List InEntry) : (s.withInput xs).cranes = s.cranes := rfl
@[simp] theorem State.withInput_claims (xs : List InEntry) : (s.withInput xs).claims = s.claims := rfl
@[simp] theorem State.withInput_proving (xs : List InEntry) : (s.withInput xs).proving = s.proving := rfl
@[simp] theorem State.withInput_stu (xs : List InEntry) : (s.withInput xs).stu = s.stu := rfl
@[simp] theorem State.withInput_groups (xs : List InEntry) : (s.withInput xs).groups = s.groups := rfl
@[simp] theorem State.withInput_sent (xs : List InEntry) : (s.withInput xs).sent = s.sent := rfl
@[simp] theorem State.withInput_pending (xs : List InEntry) : (s.withInput xs).pending = s.pending := rfl
@[simp] theorem State.withInput_crane (xs : List InEntry) (d : CraneNo) : (s.withInput xs).crane d = s.crane d := rfl
@[simp] theorem State.withInput_aisle (xs : List InEntry) (b : AisleNo) : (s.withInput xs).aisle b = s.aisle b := rfl
@[simp] theorem State.withInput_station (xs : List InEntry) (b : AisleNo) :
    (s.withInput xs).station b = s.station b := rfl
@[simp] theorem State.withInput_claimOf (xs : List InEntry) (d : CraneNo) :
    (s.withInput xs).claimOf d = s.claimOf d := rfl
@[simp] theorem State.withInput_provingOf (xs : List InEntry) (d : CraneNo) :
    (s.withInput xs).provingOf d = s.provingOf d := rfl
@[simp] theorem State.withInput_job_opt (xs : List InEntry) (i : JobId) : (s.withInput xs).job? i = s.job? i := rfl
@[simp] theorem State.withInput_run_opt (xs : List InEntry) (i : RunId) : (s.withInput xs).run? i = s.run? i := rfl
@[simp] theorem State.withInput_group_opt (xs : List InEntry) (i : GroupId) :
    (s.withInput xs).group? i = s.group? i := rfl
@[simp] theorem State.withInput_loc (xs : List InEntry) (m : Loc) : (s.withInput xs).loc m = s.loc m := rfl

@[simp] theorem State.withInput_input (xs : List InEntry) : (s.withInput xs).hli.input = xs := rfl
@[simp] theorem State.withInput_replies (xs : List InEntry) : (s.withInput xs).hli.replies = s.hli.replies := rfl
@[simp] theorem State.withInput_reports (xs : List InEntry) : (s.withInput xs).hli.reports = s.hli.reports := rfl
@[simp] theorem State.withInput_line (xs : List InEntry) : (s.withInput xs).hli.line = s.hli.line := rfl
@[simp] theorem State.withInput_rx (xs : List InEntry) : (s.withInput xs).hli.rx = s.hli.rx := rfl
@[simp] theorem State.withInput_self : s.withInput s.hli.input = s := rfl
@[simp] theorem State.withInput_withInput (xs ys : List InEntry) : (s.withInput xs).withInput ys = s.withInput ys := rfl

/-! ## addJob -/

@[simp] theorem State.addJob_now (j : Job) : (s.addJob j).now = s.now := rfl
@[simp] theorem State.addJob_hli (j : Job) : (s.addJob j).hli = s.hli := rfl
@[simp] theorem State.addJob_rnu (j : Job) : (s.addJob j).rnu = s.rnu := rfl
@[simp] theorem State.addJob_ltb (j : Job) : (s.addJob j).ltb = s.ltb := rfl
@[simp] theorem State.addJob_aisles (j : Job) : (s.addJob j).aisles = s.aisles := rfl
@[simp] theorem State.addJob_cranes (j : Job) : (s.addJob j).cranes = s.cranes := rfl
@[simp] theorem State.addJob_claims (j : Job) : (s.addJob j).claims = s.claims := rfl
@[simp] theorem State.addJob_proving (j : Job) : (s.addJob j).proving = s.proving := rfl
@[simp] theorem State.addJob_stu (j : Job) : (s.addJob j).stu = s.stu := rfl
@[simp] theorem State.addJob_groups (j : Job) : (s.addJob j).groups = s.groups := rfl
@[simp] theorem State.addJob_sent (j : Job) : (s.addJob j).sent = s.sent := rfl
@[simp] theorem State.addJob_pending (j : Job) : (s.addJob j).pending = s.pending := rfl
@[simp] theorem State.addJob_crane (j : Job) (d : CraneNo) : (s.addJob j).crane d = s.crane d := rfl
@[simp] theorem State.addJob_aisle (j : Job) (b : AisleNo) : (s.addJob j).aisle b = s.aisle b := rfl
@[simp] theorem State.addJob_station (j : Job) (b : AisleNo) : (s.addJob j).station b = s.station b := rfl
@[simp] theorem State.addJob_claimOf (j : Job) (d : CraneNo) : (s.addJob j).claimOf d = s.claimOf d := rfl
@[simp] theorem State.addJob_provingOf (j : Job) (d : CraneNo) : (s.addJob j).provingOf d = s.provingOf d := rfl
@[simp] theorem State.addJob_run_opt (j : Job) (i : RunId) : (s.addJob j).run? i = s.run? i := rfl
@[simp] theorem State.addJob_group_opt (j : Job) (i : GroupId) : (s.addJob j).group? i = s.group? i := rfl
@[simp] theorem State.addJob_loc (j : Job) (m : Loc) : (s.addJob j).loc m = s.loc m := rfl

/-! ## gaveInternal -/

@[simp] theorem State.gaveInternal_now (id : Nat) : (s.gaveInternal id).now = s.now := rfl
@[simp] theorem State.gaveInternal_hli (id : Nat) : (s.gaveInternal id).hli = s.hli := rfl
@[simp] theorem State.gaveInternal_rnu (id : Nat) : (s.gaveInternal id).rnu = s.rnu := rfl
@[simp] theorem State.gaveInternal_ltb (id : Nat) : (s.gaveInternal id).ltb = s.ltb := rfl
@[simp] theorem State.gaveInternal_aisles (id : Nat) : (s.gaveInternal id).aisles = s.aisles := rfl
@[simp] theorem State.gaveInternal_cranes (id : Nat) : (s.gaveInternal id).cranes = s.cranes := rfl
@[simp] theorem State.gaveInternal_claims (id : Nat) : (s.gaveInternal id).claims = s.claims := rfl
@[simp] theorem State.gaveInternal_proving (id : Nat) : (s.gaveInternal id).proving = s.proving := rfl
@[simp] theorem State.gaveInternal_stu (id : Nat) : (s.gaveInternal id).stu = s.stu := rfl
@[simp] theorem State.gaveInternal_groups (id : Nat) : (s.gaveInternal id).groups = s.groups := rfl
@[simp] theorem State.gaveInternal_sent (id : Nat) : (s.gaveInternal id).sent = s.sent := rfl
@[simp] theorem State.gaveInternal_pending (id : Nat) : (s.gaveInternal id).pending = s.pending := rfl
@[simp] theorem State.gaveInternal_crane (id : Nat) (d : CraneNo) : (s.gaveInternal id).crane d = s.crane d := rfl
@[simp] theorem State.gaveInternal_aisle (id : Nat) (b : AisleNo) : (s.gaveInternal id).aisle b = s.aisle b := rfl
@[simp] theorem State.gaveInternal_station (id : Nat) (b : AisleNo) : (s.gaveInternal id).station b = s.station b := rfl
@[simp] theorem State.gaveInternal_claimOf (id : Nat) (d : CraneNo) : (s.gaveInternal id).claimOf d = s.claimOf d := rfl
@[simp] theorem State.gaveInternal_provingOf (id : Nat) (d : CraneNo) :
    (s.gaveInternal id).provingOf d = s.provingOf d := rfl
@[simp] theorem State.gaveInternal_run_opt (id : Nat) (i : RunId) : (s.gaveInternal id).run? i = s.run? i := rfl
@[simp] theorem State.gaveInternal_group_opt (id : Nat) (i : GroupId) : (s.gaveInternal id).group? i = s.group? i := rfl
@[simp] theorem State.gaveInternal_loc (id : Nat) (m : Loc) : (s.gaveInternal id).loc m = s.loc m := rfl

/-! ## freeJob -/

@[simp] theorem State.freeJob_now (j : Job) : (s.freeJob j).now = s.now := rfl
@[simp] theorem State.freeJob_hli (j : Job) : (s.freeJob j).hli = s.hli := rfl
@[simp] theorem State.freeJob_rnu (j : Job) : (s.freeJob j).rnu = s.rnu := rfl
@[simp] theorem State.freeJob_ltb (j : Job) : (s.freeJob j).ltb = s.ltb := rfl
@[simp] theorem State.freeJob_aisles (j : Job) : (s.freeJob j).aisles = s.aisles := rfl
@[simp] theorem State.freeJob_cranes (j : Job) : (s.freeJob j).cranes = s.cranes := rfl
@[simp] theorem State.freeJob_claims (j : Job) : (s.freeJob j).claims = s.claims := rfl
@[simp] theorem State.freeJob_proving (j : Job) : (s.freeJob j).proving = s.proving := rfl
@[simp] theorem State.freeJob_stu (j : Job) : (s.freeJob j).stu = s.stu := rfl
@[simp] theorem State.freeJob_groups (j : Job) : (s.freeJob j).groups = s.groups := rfl
@[simp] theorem State.freeJob_sent (j : Job) : (s.freeJob j).sent = s.sent := rfl
@[simp] theorem State.freeJob_pending (j : Job) : (s.freeJob j).pending = s.pending := rfl
@[simp] theorem State.freeJob_crane (j : Job) (d : CraneNo) : (s.freeJob j).crane d = s.crane d := rfl
@[simp] theorem State.freeJob_aisle (j : Job) (b : AisleNo) : (s.freeJob j).aisle b = s.aisle b := rfl
@[simp] theorem State.freeJob_station (j : Job) (b : AisleNo) : (s.freeJob j).station b = s.station b := rfl
@[simp] theorem State.freeJob_claimOf (j : Job) (d : CraneNo) : (s.freeJob j).claimOf d = s.claimOf d := rfl
@[simp] theorem State.freeJob_provingOf (j : Job) (d : CraneNo) : (s.freeJob j).provingOf d = s.provingOf d := rfl
@[simp] theorem State.freeJob_run_opt (j : Job) (i : RunId) : (s.freeJob j).run? i = s.run? i := rfl
@[simp] theorem State.freeJob_group_opt (j : Job) (i : GroupId) : (s.freeJob j).group? i = s.group? i := rfl
@[simp] theorem State.freeJob_loc (j : Job) (m : Loc) : (s.freeJob j).loc m = s.loc m := rfl

/-! ## What an update writes -/

theorem State.mapCrane_crane (c d : CraneNo) (f : Crane → Crane) :
    (s.mapCrane c f).crane d = if d = c then f (s.crane c) else s.crane d := by
  simp only [State.mapCrane, State.crane, Fin.getElem_fin, Vector.getElem_set]
  by_cases h : d = c
  · subst h; simp
  · rw [if_neg h, if_neg (fun e => h (Fin.ext e.symm))]

@[simp] theorem State.mapCrane_crane_same (c : CraneNo) (f : Crane → Crane) :
    (s.mapCrane c f).crane c = f (s.crane c) := by
  simp [State.mapCrane_crane]

theorem State.mapCrane_crane_other {c d : CraneNo} (f : Crane → Crane) (h : d ≠ c) :
    (s.mapCrane c f).crane d = s.crane d := by
  simp [State.mapCrane_crane, h]

theorem State.mapAisle_aisle (a b : AisleNo) (f : Aisle → Aisle) :
    (s.mapAisle a f).aisle b = if b = a then f (s.aisle a) else s.aisle b := by
  simp only [State.mapAisle, State.aisle, Fin.getElem_fin, Vector.getElem_set]
  by_cases h : b = a
  · subst h; simp
  · rw [if_neg h, if_neg (fun e => h (Fin.ext e.symm))]

@[simp] theorem State.mapAisle_aisle_same (a : AisleNo) (f : Aisle → Aisle) :
    (s.mapAisle a f).aisle a = f (s.aisle a) := by
  simp [State.mapAisle_aisle]

theorem State.mapStation_station (a b : AisleNo) (f : Station → Station) :
    (s.mapStation a f).station b = if b = a then f (s.station a) else s.station b := by
  simp only [State.mapStation, State.station, Fin.getElem_fin, Vector.getElem_set]
  by_cases h : b = a
  · subst h; simp
  · rw [if_neg h, if_neg (fun e => h (Fin.ext e.symm))]

@[simp] theorem State.mapStation_station_same (a : AisleNo) (f : Station → Station) :
    (s.mapStation a f).station a = f (s.station a) := by
  simp [State.mapStation_station]

theorem State.setClaim_claimOf (c d : CraneNo) (x : Option Span) :
    (s.setClaim c x).claimOf d = if d = c then x else s.claimOf d := by
  simp only [State.setClaim, State.claimOf, Fin.getElem_fin, Vector.getElem_set]
  by_cases h : d = c
  · subst h; simp
  · rw [if_neg h, if_neg (fun e => h (Fin.ext e.symm))]

theorem State.setProving_provingOf (c d : CraneNo) (p : Proving) :
    (s.setProving c p).provingOf d = if d = c then p else s.provingOf d := by
  simp only [State.setProving, State.provingOf, Fin.getElem_fin, Vector.getElem_set]
  by_cases h : d = c
  · subst h; simp
  · rw [if_neg h, if_neg (fun e => h (Fin.ext e.symm))]

@[simp] theorem State.mapStation_collector (a : AisleNo) (f : Station → Station) :
    (s.mapStation a f).stu.collector = s.stu.collector := rfl
@[simp] theorem State.mapStation_rotation (a : AisleNo) (f : Station → Station) :
    (s.mapStation a f).stu.rotation = s.stu.rotation := rfl
@[simp] theorem State.mapStation_linkUp (a : AisleNo) (f : Station → Station) :
    (s.mapStation a f).stu.linkUp = s.stu.linkUp := rfl

@[simp] theorem State.sendOut_sent (x : Sent) : (s.sendOut x).sent = s.sent ++ [x] := rfl
@[simp] theorem State.reported_hli (r : Report) : (s.reported r).hli = s.hli.queue r := rfl
@[simp] theorem State.setLoc_ltb (l : Loc) (r : LocRec) : (s.setLoc l r).ltb = s.ltb.put l r := rfl
@[simp] theorem State.mapJob_jobs (id : JobId) (f : Job → Job) :
    (s.mapJob id f).jtb.jobs = s.jtb.jobs.map (fun j => if j.id == id then f j else j) := rfl
@[simp] theorem State.mapJob_queues (id : JobId) (f : Job → Job) : (s.mapJob id f).jtb.queues = s.jtb.queues := rfl
@[simp] theorem State.mapJob_stamp (id : JobId) (f : Job → Job) : (s.mapJob id f).jtb.stamp = s.jtb.stamp := rfl
@[simp] theorem State.mapJob_internalId (id : JobId) (f : Job → Job) :
    (s.mapJob id f).jtb.internalId = s.jtb.internalId := rfl
@[simp] theorem State.mapJob_clearWait (id : JobId) (f : Job → Job) :
    (s.mapJob id f).jtb.clearWait = s.jtb.clearWait := rfl
@[simp] theorem State.mapJob_freeNotices (id : JobId) (f : Job → Job) :
    (s.mapJob id f).jtb.freeNotices = s.jtb.freeNotices := rfl
@[simp] theorem State.mapJob_mismatched (id : JobId) (f : Job → Job) :
    (s.mapJob id f).jtb.mismatched = s.jtb.mismatched := rfl
@[simp] theorem State.mapJob_targetOccupied (id : JobId) (f : Job → Job) :
    (s.mapJob id f).jtb.targetOccupied = s.jtb.targetOccupied := rfl
@[simp] theorem State.mapJob_headTaken (id : JobId) (f : Job → Job) :
    (s.mapJob id f).jtb.headTaken = s.jtb.headTaken := rfl

/-- A change that keeps the ids of the records keeps which record a job id finds, and changes it when it is the one. -/
theorem State.mapJob_job (id i : JobId) (f : Job → Job) (hf : ∀ j, (f j).id = j.id) :
    (s.mapJob id f).job? i = (s.job? i).map (fun j => if j.id == id then f j else j) := by
  simp only [State.job?, State.mapJob_jobs, List.find?_map]
  congr 1
  congr 1
  funext j
  simp only [Function.comp]
  split <;> simp [hf]

/-- The record a job id finds is in the table and has that id. -/
theorem State.job_mem {s : State} {i : JobId} {j : Job} (h : s.job? i = some j) : j ∈ s.jtb.jobs ∧ j.id = i :=
  ⟨List.mem_of_find?_eq_some h, by simpa using List.find?_some h⟩

/-- The job a crane serves has the id the crane holds. -/
theorem State.craneJob_spec {s : State} {c : CraneNo} {j : Job} (h : s.craneJob? c = some j) :
    (s.crane c).job = some j.id ∧ s.job? j.id = some j := by
  unfold State.craneJob? at h
  cases hj : (s.crane c).job with
  | none => simp [hj] at h
  | some i =>
    simp only [hj, Option.bind_some] at h
    have := (State.job_mem h).2
    subst this
    exact ⟨rfl, h⟩

end Sys2Proof.Machine
end

