-- ==== Sys2Proof/Laws/HostLink.lean ====
section
/-! SUPPORT. The host link: what queuing a report changes (R191, R192), what feeding the line changes (R190), and the end of an
event that has raised no notice. -/

namespace Sys2Proof.Machine

/-! ## Queuing a report -/

section Queue
variable (h : Hli) (r : Report)

@[simp] theorem Hli.append_rx : (h.append r).rx = h.rx := by unfold Hli.append; split <;> rfl
@[simp] theorem Hli.append_input : (h.append r).input = h.input := by unfold Hli.append; split <;> rfl
@[simp] theorem Hli.append_replies : (h.append r).replies = h.replies := by unfold Hli.append; split <;> rfl
@[simp] theorem Hli.append_line : (h.append r).line = h.line := by unfold Hli.append; split <;> rfl

/-- Queuing a report is an append, or the replacement of entries of the same kind in place. -/
theorem Hli.queue_cases : h.queue r = h.append r ∨
    ∃ f : Report → Report, h.queue r = { h with reports := h.reports.map f } ∧
      (∀ e, (∃ c, e.isCraneState c = true) ∨ (∃ a, e.isAisleState a = true) ∨ f e = e) := by
  cases r with
  | craneState x =>
    simp only [Hli.queue]
    split
    · refine Or.inr ⟨_, rfl, fun e => ?_⟩
      by_cases he : e.isCraneState x.crane = true
      · exact Or.inl ⟨_, he⟩
      · exact Or.inr (Or.inr (by simp [he]))
    · exact Or.inl rfl
  | aisleState a st k =>
    simp only [Hli.queue]
    split
    · refine Or.inr ⟨_, rfl, fun e => ?_⟩
      by_cases he : e.isAisleState a = true
      · exact Or.inr (Or.inl ⟨_, he⟩)
      · exact Or.inr (Or.inr (by simp [he]))
    · exact Or.inl rfl
  | _ => exact Or.inl rfl

@[simp] theorem Hli.queue_rx : (h.queue r).rx = h.rx := by
  rcases Hli.queue_cases h r with e | ⟨f, e, _⟩ <;> simp [e]
@[simp] theorem Hli.queue_input : (h.queue r).input = h.input := by
  rcases Hli.queue_cases h r with e | ⟨f, e, _⟩ <;> simp [e]
@[simp] theorem Hli.queue_replies : (h.queue r).replies = h.replies := by
  rcases Hli.queue_cases h r with e | ⟨f, e, _⟩ <;> simp [e]
@[simp] theorem Hli.queue_line : (h.queue r).line = h.line := by
  rcases Hli.queue_cases h r with e | ⟨f, e, _⟩ <;> simp [e]

/-- The queue grows by at most one entry, and never above its capacity; an entry that is neither a CRANE-STATE nor an
AISLE-STATE stays. -/
theorem Hli.queue_reports (hl : h.reports.length ≤ Config.reportEntries) :
    (h.queue r).reports.length ≤ Config.reportEntries ∧ h.reports.length ≤ (h.queue r).reports.length ∧
    (h.queue r).reports.length ≤ h.reports.length + 1 ∧
    (h.queue r).lost ≤ max h.lost Config.maxLost ∧
    ∀ e ∈ h.reports, (∀ c, e.isCraneState c = false) → (∀ a, e.isAisleState a = false) → e ∈ (h.queue r).reports := by
  rcases Hli.queue_cases h r with e | ⟨f, e, hf⟩
  · rw [e]
    unfold Hli.append
    split
    · refine ⟨hl, Nat.le_refl _, Nat.le_succ _, ?_, fun x hx _ _ => hx⟩
      simp only
      omega
    · next hn =>
      simp only [List.length_append, List.length_singleton]
      refine ⟨by omega, by omega, Nat.le_refl _, by omega, fun x hx _ _ => by simp [hx]⟩
  · rw [e]
    simp only [List.length_map]
    refine ⟨hl, Nat.le_refl _, Nat.le_succ _, Nat.le_max_left _ _, fun x hx h1 h2 => ?_⟩
    rcases hf x with ⟨c, hc⟩ | ⟨a, ha⟩ | hx'
    · simp [h1 c] at hc
    · simp [h2 a] at ha
    · exact List.mem_map.2 ⟨x, hx, hx'⟩

/-- A report that is not coalesced joins the tail of a queue with room. -/
theorem Hli.queue_tail (hr : (∀ c, r.isCraneState c = false) ∧ ∀ a, r.isAisleState a = false)
    (hl : h.reports.length < Config.reportEntries) : (h.queue r).reports = h.reports ++ [r] := by
  have : h.queue r = h.append r := by
    cases r with
    | craneState x => simp [Report.isCraneState] at hr
    | aisleState a st k => simp [Report.isAisleState] at hr
    | _ => rfl
  rw [this, Hli.append, if_neg (by omega)]

/-- The parts of `Hli.ok` that queuing a report keeps: the capacities and the two thresholds of the pause. -/
theorem Hli.queue_bounds (hb : h.reports.length ≤ Config.reportEntries ∧ h.lost ≤ Config.maxLost ∧
      (Config.pauseRaise ≤ h.reports.length → h.pause = true) ∧
      (h.pause = true → Config.pauseDrop < h.reports.length)) :
    (h.queue r).reports.length ≤ Config.reportEntries ∧ (h.queue r).lost ≤ Config.maxLost ∧
      (Config.pauseRaise ≤ (h.queue r).reports.length → (h.queue r).pause = true) ∧
      ((h.queue r).pause = true → Config.pauseDrop < (h.queue r).reports.length) := by
  obtain ⟨h1, h2, h3, h4⟩ := hb
  rcases Hli.queue_cases h r with e | ⟨f, e, _⟩
  · rw [e]
    unfold Hli.append
    split
    · exact ⟨h1, Nat.min_le_right _ _, h3, h4⟩
    · next hn =>
      simp only [List.length_append, List.length_singleton]
      refine ⟨by omega, h2, ?_, ?_⟩
      · intro hp; simp [hp]
      · intro hp
        simp only [Bool.or_eq_true, decide_eq_true_eq] at hp
        rcases hp with hp | hp
        · exact Nat.lt_succ_of_lt (h4 hp)
        · simp only [Config.pauseRaise, Config.pauseDrop] at *; omega
  · rw [e]
    simpa using ⟨h1, h2, h3, h4⟩

end Queue

/-! ## Feeding the line -/

theorem Hli.sendReport_frame (h : Hli) (r : Report) (rest : List Report) :
    (h.sendReport r rest).line = some (.report 0 r) ∧ (h.sendReport r rest).replies = h.replies ∧
    (h.sendReport r rest).input = h.input ∧ (h.sendReport r rest).rx = h.rx := by
  unfold Hli.sendReport
  simp only
  split <;> simp

/-- What feeding the line does: nothing, the head reply leaves, or the head report leaves. -/
theorem State.feed_cases (s : State) : s.feed = s ∧ (s.hli.line = none → s.hli.replies = [] ∧ s.hli.reports = []) ∨
    (∃ x rest, s.hli.line = none ∧ s.hli.replies = x :: rest ∧
      s.feed = ({ s with hli := { s.hli with line := some (.reply x), replies := rest } }).sendOut (.host (.reply x))) ∨
    (∃ r rest, s.hli.line = none ∧ s.hli.replies = [] ∧ s.hli.reports = r :: rest ∧
      s.feed = ({ s with hli := s.hli.sendReport r rest }).sendOut (.host (.report 0 r))) := by
  unfold State.feed Hli.feed
  cases hl : s.hli.line with
  | some f => left; simp
  | none =>
    cases hr : s.hli.replies with
    | cons x rest => right; left; exact ⟨x, rest, rfl, rfl, rfl⟩
    | nil =>
      cases hp : s.hli.reports with
      | nil => left; simp [hl]
      | cons x rest =>
        right; right
        refine ⟨x, rest, rfl, rfl, rfl, ?_⟩
        simp [(Hli.sendReport_frame s.hli x rest).1]

/-- A line that is busy, or has nothing to send, is left as it is. -/
theorem State.feed_of_fed {s : State} (h : s.lineFed) : s.feed = s := by
  rcases State.feed_cases s with h1 | ⟨x, rest, hl, hr, _⟩ | ⟨x, rest, hl, hr, hp, _⟩
  · exact h1.1
  · rw [(h hl).1] at hr; cases hr
  · rw [(h hl).2] at hp; cases hp

/-- After feeding, the line is fed. -/
theorem State.feed_fed (s : State) : s.feed.lineFed := by
  rcases State.feed_cases s with h | ⟨x, rest, _, _, e⟩ | ⟨x, rest, _, _, _, e⟩
  · rw [h.1]; exact h.2
  · rw [e]; intro hn; simp at hn
  · rw [e]; intro hn; simp [(Hli.sendReport_frame s.hli x rest).1] at hn

/-- Feeding the line touches the host link and the log of messages only. -/
theorem State.feed_frame (s : State) : ∃ h x, s.feed = { s with hli := h, sent := x } ∧ h.rx = s.hli.rx ∧
    h.input = s.hli.input ∧ ∃ new, x = s.sent ++ new := by
  rcases State.feed_cases s with h | ⟨x, rest, _, _, e⟩ | ⟨x, rest, _, _, _, e⟩
  · exact ⟨s.hli, s.sent, h.1, rfl, rfl, [], by simp⟩
  · exact ⟨_, _, e, rfl, rfl, _, rfl⟩
  · have := Hli.sendReport_frame s.hli x rest
    exact ⟨_, _, e, this.2.2.2, this.2.2.1, _, rfl⟩

/-- Feeding the line keeps the sequence of the replies given. -/
theorem State.feed_answers (s : State) : s.feed.answers = s.answers := by
  rcases State.feed_cases s with h | ⟨x, rest, _, hr, e⟩ | ⟨x, rest, _, hr, _, e⟩
  · rw [h.1]
  · rw [e]; simp [State.answers, State.sendOut, Sent.reply?, hr]
  · rw [e]; simp [State.answers, State.sendOut, Sent.reply?, hr, (Hli.sendReport_frame s.hli x rest).2.1]

/-! ## The end of an event -/

/-- No notice, test or decision waits in the work of an event. -/
def Work.still (w : Work) : Prop :=
  w.quiet = true ∧ w.releaseDue = false ∧ w.closesDue = [] ∧ w.runEnds = [] ∧ w.jobEnded = false

theorem Work.start_still (s : State) : (Work.start s).still := by
  refine ⟨rfl, rfl, rfl, rfl, rfl⟩

/-- Work without notices settles without a change of the state. -/
theorem Work.settle_still {w : Work} (h : w.still) : w.settle.st = w.st := by
  obtain ⟨h1, h2, h3, h4, h5⟩ := h
  have hp : Work.passes passRounds w = w := by simp [passRounds, Work.passes, h1]
  have hr : w.takeRelease = w := by simp [Work.takeRelease, h2]
  have hc : w.takeCloses = w := by
    cases w; simp only at h3; subst h3; rfl
  have he : w.takeRunEnds.st = w.st ∧ w.takeRunEnds.jobEnded = false := by
    cases w; simp only at h4 h5; subst h4; exact ⟨rfl, h5⟩
  simp only [Work.settle, hp, hr, hc, Work.giveFree]
  rw [if_neg (by simp [he.2])]
  exact he.1

/-- Feeding the line within an event: the line is fed, and the end of the dispatch pause is settled. -/
theorem Work.feed_cases (w : Work) : w.feed.st = w.st.feed ∨ (w.st.hli.pause = true ∧ w.st.feed.hli.pause = false ∧
    w.feed.st = (w.onState State.feed).pauseEnded.settle.st) := by
  unfold Work.feed
  simp only
  split
  · next h => exact Or.inr ⟨h.1, h.2, rfl⟩
  · exact Or.inl rfl

/-- The state after an event whose work has no notice, on a line that is fed: the state of its work. -/
theorem Work.finish_still {w : Work} (h : w.still) (hf : w.st.lineFed) : w.finish = w.st := by
  have hs := Work.settle_still h
  have e : w.settle.st.feed = w.settle.st := State.feed_of_fed (by rw [hs]; exact hf)
  rcases Work.feed_cases w.settle with h | ⟨h1, h2, _⟩
  · rw [Work.finish, h, e, hs]
  · rw [e] at h2; rw [h1] at h2; cases h2

/-- The state after a request whose work has no notice: the reply is queued, on the line when that was idle. The premise on the
pause tells that the reply's leaving ends none. -/
theorem answerWith_still {r : Work × Answer} {k : ReplyKind} {tag : FrameTag} (h : r.1.still) :
    let t := r.1.st.pushReply (r.2.reply k tag)
    (t.hli.pause = true → t.feed.hli.pause = true) → answerWith r k tag = t.feed := by
  intro t hp
  have hs : (r.1.onState (fun x => x.pushReply (r.2.reply k tag))).settle.st = t := Work.settle_still h
  simp only [answerWith, Work.finish]
  rcases Work.feed_cases (r.1.onState (fun x => x.pushReply (r.2.reply k tag))).settle with h | ⟨h1, h2, _⟩
  · rw [h, hs]
  · rw [hs] at h1 h2; rw [hp h1] at h2; cases h2

end Sys2Proof.Machine
end

