-- ==== Sys2Proof/Laws/Locations.lean ====
section
/-! SUPPORT. The location table: the order of addresses is strict and total; a record read after a write is the one written,
and a write leaves every other address; each operation keeps the canonical form. -/

namespace Sys2Proof.Machine

/-! ## The order of addresses -/

theorem Side.rank_inj {a b : Side} (h : sideRank a = sideRank b) : a = b := by
  cases a <;> cases b <;> simp_all [sideRank]

theorem Depth.rank_inj {a b : Depth} (h : depthRank a = depthRank b) : a = b := by
  cases a <;> cases b <;> simp_all [depthRank]

/-- The order as a comparison of five numbers, the first that differs deciding. -/
theorem Loc.before_iff (x y : Loc) : x.before y = true ↔
    x.aisle.val < y.aisle.val ∨ x.aisle.val = y.aisle.val ∧
      (sideRank x.side < sideRank y.side ∨ sideRank x.side = sideRank y.side ∧
        (x.bay < y.bay ∨ x.bay = y.bay ∧
          (x.level < y.level ∨ x.level = y.level ∧ depthRank x.depth < depthRank y.depth))) := by
  simp [Loc.before]

theorem Loc.eq_iff (x y : Loc) : x = y ↔ x.aisle.val = y.aisle.val ∧ sideRank x.side = sideRank y.side ∧
    x.bay = y.bay ∧ x.level = y.level ∧ depthRank x.depth = depthRank y.depth := by
  constructor
  · rintro rfl; simp
  · rintro ⟨h1, h2, h3, h4, h5⟩
    cases x; cases y
    simp only [Loc.mk.injEq]
    exact ⟨Fin.ext h1, Side.rank_inj h2, h3, h4, Depth.rank_inj h5⟩

theorem Loc.before_irrefl (x : Loc) : x.before x = false := by
  rw [Bool.eq_false_iff, Ne, Loc.before_iff]; omega

theorem Loc.before_trans {x y z : Loc} (h1 : x.before y = true) (h2 : y.before z = true) : x.before z = true := by
  rw [Loc.before_iff] at *; omega

theorem Loc.before_total {x y : Loc} (h1 : x ≠ y) (h2 : x.before y = false) : y.before x = true := by
  rw [Bool.eq_false_iff, Ne, Loc.before_iff] at h2
  rw [Ne, Loc.eq_iff] at h1
  rw [Loc.before_iff]; omega

theorem Loc.partner_ne (l : Loc) : l.partner ≠ l := by
  cases l with | mk a s b v d => cases d <;> simp [Loc.partner]

@[simp] theorem Loc.partner_partner (l : Loc) : l.partner.partner = l := by
  cases l with | mk a s b v d => cases d <;> simp [Loc.partner]

/-! ## The canonical form -/

/-- Every address of a list comes after an address. -/
def LocTable.above (k : Loc) (t : LocTable) : Prop := ∀ e ∈ t, k.before e.1 = true

/-- The canonical form, with the first address before all others. -/
theorem LocTable.wf_cons (k : Loc) (r : LocRec) (t : LocTable) :
    LocTable.wf ((k, r) :: t) = true ↔ r ≠ {} ∧ LocTable.above k t ∧ LocTable.wf t = true := by
  induction t generalizing k r with
  | nil => simp [LocTable.wf, LocTable.above]
  | cons e t ih =>
    obtain ⟨k2, r2⟩ := e
    have h := ih k2 r2
    constructor
    · intro hw
      simp only [LocTable.wf, Bool.and_eq_true, decide_eq_true_eq] at hw
      obtain ⟨⟨h1, h2⟩, h3⟩ := hw
      have h4 : LocTable.wf ((k2, r2) :: t) = true := by simpa [LocTable.wf] using h3
      refine ⟨h1, ?_, h4⟩
      intro e he
      rcases List.mem_cons.1 he with rfl | he
      · exact h2
      · exact Loc.before_trans h2 ((h.1 h4).2.1 e he)
    · rintro ⟨h1, h2, h3⟩
      have h2' : k.before k2 = true := h2 (k2, r2) (by simp)
      have h4 : LocTable.wf ((k, r) :: (k2, r2) :: t) =
          (decide (r ≠ {}) && k.before k2 && LocTable.wf ((k2, r2) :: t)) := rfl
      simp [h4, h1, h2', h3]

theorem LocTable.wf_tail {e : Loc × LocRec} {t : LocTable} (h : LocTable.wf (e :: t) = true) : LocTable.wf t = true :=
  ((LocTable.wf_cons e.1 e.2 t).1 h).2.2

/-- An address that is not after a whole list's floor is not listed. -/
theorem LocTable.get_of_above {k l : Loc} {t : LocTable} (h : LocTable.above k t) (hl : l = k ∨ l.before k = true) :
    t.get l = {} := by
  induction t with
  | nil => rfl
  | cons e t ih =>
    obtain ⟨k2, r2⟩ := e
    have h2 : k.before k2 = true := h (k2, r2) (by simp)
    have hne : k2 ≠ l := by
      rintro rfl
      rcases hl with rfl | hl
      · simp [Loc.before_irrefl] at h2
      · have := Loc.before_trans h2 hl; simp [Loc.before_irrefl] at this
    simp only [LocTable.get, hne, if_false]
    exact ih (fun e he => h e (by simp [he]))

/-! ## Reading and writing -/

/-- A record read at another address is not changed by a write, in any list. -/
theorem LocTable.get_put_other {t : LocTable} {l m : Loc} (r : LocRec) (h : m ≠ l) : (t.put l r).get m = t.get m := by
  induction t with
  | nil =>
    simp only [LocTable.put]
    split <;> simp [LocTable.get, h.symm]
  | cons e t ih =>
    obtain ⟨k, x⟩ := e
    simp only [LocTable.put]
    split
    · next hk =>
      subst hk
      split <;> simp [LocTable.get, h.symm]
    · split
      · split <;> simp [LocTable.get, h.symm]
      · simp [LocTable.get, ih]

/-- The record read at the address written is the one written. -/
theorem LocTable.get_put_same {t : LocTable} {l : Loc} (r : LocRec) (h : t.wf = true) : (t.put l r).get l = r := by
  induction t with
  | nil =>
    simp only [LocTable.put]
    split
    · next hr => simp [LocTable.get, hr]
    · simp [LocTable.get]
  | cons e t ih =>
    obtain ⟨k, x⟩ := e
    obtain ⟨_, ha, ht⟩ := (LocTable.wf_cons k x t).1 h
    simp only [LocTable.put]
    split
    · next hk =>
      subst hk
      split
      · next hr => rw [hr]; exact LocTable.get_of_above ha (Or.inl rfl)
      · simp [LocTable.get]
    · next hk =>
      split
      · next hb =>
        split
        · next hr =>
          rw [hr]
          simp only [LocTable.get, hk, if_false]
          exact LocTable.get_of_above ha (Or.inr hb)
        · simp [LocTable.get]
      · simp only [LocTable.get, hk, if_false]
        exact ih ht

theorem LocTable.get_put {t : LocTable} {l m : Loc} (r : LocRec) (h : t.wf = true) :
    (t.put l r).get m = if m = l then r else t.get m := by
  split
  · next e => subst e; exact LocTable.get_put_same r h
  · next e => exact LocTable.get_put_other r e

/-- A write adds no address but the one written. -/
theorem LocTable.mem_put {t : LocTable} {l : Loc} {r : LocRec} {e : Loc × LocRec} (h : e ∈ t.put l r) :
    e = (l, r) ∧ r ≠ {} ∨ e ∈ t := by
  induction t with
  | nil =>
    simp only [LocTable.put] at h
    split at h
    · simp at h
    · next hr => exact Or.inl ⟨by simpa using h, hr⟩
  | cons a t ih =>
    obtain ⟨k, x⟩ := a
    simp only [LocTable.put] at h
    split at h
    · split at h
      · exact Or.inr (by simp [h])
      · next hr =>
        rcases List.mem_cons.1 h with h | h
        · exact Or.inl ⟨h, hr⟩
        · exact Or.inr (by simp [h])
    · split at h
      · split at h
        · exact Or.inr h
        · next hr =>
          rcases List.mem_cons.1 h with h | h
          · exact Or.inl ⟨h, hr⟩
          · exact Or.inr h
      · rcases List.mem_cons.1 h with h | h
        · exact Or.inr (by simp [h])
        · rcases ih h with h | h
          · exact Or.inl h
          · exact Or.inr (by simp [h])

/-- A write keeps the canonical form. -/
theorem LocTable.put_wf {t : LocTable} (l : Loc) (r : LocRec) (h : t.wf = true) : (t.put l r).wf = true := by
  induction t with
  | nil =>
    simp only [LocTable.put]
    split
    · rfl
    · next hr => exact (LocTable.wf_cons l r []).2 ⟨hr, by simp [LocTable.above], rfl⟩
  | cons e t ih =>
    obtain ⟨k, x⟩ := e
    obtain ⟨hx, ha, ht⟩ := (LocTable.wf_cons k x t).1 h
    simp only [LocTable.put]
    split
    · next hk =>
      subst hk
      split
      · exact ht
      · next hr => exact (LocTable.wf_cons k r t).2 ⟨hr, ha, ht⟩
    · next hk =>
      split
      · next hb =>
        split
        · exact h
        · next hr =>
          refine (LocTable.wf_cons l r _).2 ⟨hr, ?_, h⟩
          intro e he
          rcases List.mem_cons.1 he with rfl | he
          · exact hb
          · exact Loc.before_trans hb (ha e he)
      · next hb =>
        refine (LocTable.wf_cons k x _).2 ⟨hx, ?_, ih ht⟩
        intro e he
        rcases LocTable.mem_put he with ⟨rfl, _⟩ | he
        · exact Loc.before_total (Ne.symm hk) (by simpa using hb)
        · exact ha e he

/-! ## The other operations -/

theorem LocTable.dropAisle_wf {t : LocTable} (a : AisleNo) (h : t.wf = true) : (t.dropAisle a).wf = true := by
  induction t with
  | nil => rfl
  | cons e t ih =>
    obtain ⟨k, x⟩ := e
    obtain ⟨hx, ha, ht⟩ := (LocTable.wf_cons k x t).1 h
    have ih := ih ht
    simp only [LocTable.dropAisle, List.filter_cons] at ih ⊢
    split
    · exact (LocTable.wf_cons k x _).2 ⟨hx, fun e he => ha e (List.mem_filter.1 he).1, ih⟩
    · exact ih

theorem LocTable.get_dropAisle (t : LocTable) (a : AisleNo) (l : Loc) :
    (t.dropAisle a).get l = if l.aisle = a then {} else t.get l := by
  induction t with
  | nil => simp [LocTable.dropAisle, LocTable.get]
  | cons e t ih =>
    obtain ⟨k, x⟩ := e
    simp only [LocTable.dropAisle, List.filter_cons] at ih ⊢
    by_cases hk : k.aisle = a
    · simp only [hk, bne_self_eq_false, Bool.false_eq_true, if_false, ih, LocTable.get]
      by_cases hl : k = l
      · subst hl; simp [hk]
      · simp [hl]
    · have : (k.aisle != a) = true := by simpa using hk
      simp only [this, if_true, LocTable.get, ih]
      by_cases hl : k = l
      · subst hl; simp [hk]
      · simp [hl]

@[simp] theorem LocRec.afterRestart_default : LocRec.afterRestart {} = {} := rfl

theorem LocTable.mem_afterRestart {t : LocTable} {e : Loc × LocRec} (h : e ∈ LocTable.afterRestart t) :
    ∃ r, (e.1, r) ∈ t := by
  induction t with
  | nil => simp [LocTable.afterRestart] at h
  | cons a t ih =>
    obtain ⟨k, x⟩ := a
    simp only [LocTable.afterRestart] at h
    split at h
    · obtain ⟨r, hr⟩ := ih h; exact ⟨r, by simp [hr]⟩
    · rcases List.mem_cons.1 h with rfl | h
      · exact ⟨x, by simp⟩
      · obtain ⟨r, hr⟩ := ih h; exact ⟨r, by simp [hr]⟩

theorem LocTable.afterRestart_wf {t : LocTable} (h : t.wf = true) : (LocTable.afterRestart t).wf = true := by
  induction t with
  | nil => rfl
  | cons e t ih =>
    obtain ⟨k, x⟩ := e
    obtain ⟨_, ha, ht⟩ := (LocTable.wf_cons k x t).1 h
    simp only [LocTable.afterRestart]
    split
    · exact ih ht
    · next hr =>
      refine (LocTable.wf_cons k _ _).2 ⟨hr, ?_, ih ht⟩
      intro e he
      obtain ⟨r, hr⟩ := LocTable.mem_afterRestart he
      exact ha (e.1, r) hr

theorem LocTable.get_afterRestart {t : LocTable} (l : Loc) (h : t.wf = true) :
    (LocTable.afterRestart t).get l = (t.get l).afterRestart := by
  induction t with
  | nil => rfl
  | cons e t ih =>
    obtain ⟨k, x⟩ := e
    obtain ⟨_, ha, ht⟩ := (LocTable.wf_cons k x t).1 h
    simp only [LocTable.afterRestart]
    split
    · next hr =>
      by_cases hk : k = l
      · subst hk
        rw [ih ht, LocTable.get_of_above ha (Or.inl rfl)]
        simp [LocTable.get, hr]
      · simp [LocTable.get, hk, ih ht]
    · by_cases hk : k = l
      · simp [LocTable.get, hk]
      · simp [LocTable.get, hk, ih ht]

/-! ## The table within the state -/

theorem State.setLoc_loc {s : State} {l m : Loc} {r : LocRec} (h : s.ltb.wf = true) :
    (s.setLoc l r).loc m = if m = l then r else s.loc m := LocTable.get_put r h

theorem State.setLoc_loc_other {s : State} {l m : Loc} (r : LocRec) (h : m ≠ l) : (s.setLoc l r).loc m = s.loc m :=
  LocTable.get_put_other r h

theorem State.setLoc_wf {s : State} (l : Loc) (r : LocRec) (h : s.ltb.wf = true) : (s.setLoc l r).ltb.wf = true :=
  LocTable.put_wf l r h

theorem State.reset_ltb_wf : State.reset.ltb.wf = true := rfl

end Sys2Proof.Machine
end

