-- ==== Sys2Proof/Laws/Ops.lean ====
section
/-! SUPPORT. What each shared operation of an event does to the state: one equation for each operation, in terms of the updates
of Laws/State.lean. The operations that raise a notice only leave the state as it is. -/

namespace Sys2Proof.Machine

/-! ## A report that is told under a condition -/

/-- The state with a report queued when a condition holds. -/
def State.tellIf (s : State) (b : Bool) (r : Report) : State := if b then s.reported r else s

section
variable (s : State) (b : Bool) (r : Report)

@[simp] theorem State.tellIf_now : (s.tellIf b r).now = s.now := by cases b <;> rfl
@[simp] theorem State.tellIf_jtb : (s.tellIf b r).jtb = s.jtb := by cases b <;> rfl
@[simp] theorem State.tellIf_rnu : (s.tellIf b r).rnu = s.rnu := by cases b <;> rfl
@[simp] theorem State.tellIf_ltb : (s.tellIf b r).ltb = s.ltb := by cases b <;> rfl
@[simp] theorem State.tellIf_aisles : (s.tellIf b r).aisles = s.aisles := by cases b <;> rfl
@[simp] theorem State.tellIf_cranes : (s.tellIf b r).cranes = s.cranes := by cases b <;> rfl
@[simp] theorem State.tellIf_claims : (s.tellIf b r).claims = s.claims := by cases b <;> rfl
@[simp] theorem State.tellIf_proving : (s.tellIf b r).proving = s.proving := by cases b <;> rfl
@[simp] theorem State.tellIf_stu : (s.tellIf b r).stu = s.stu := by cases b <;> rfl
@[simp] theorem State.tellIf_groups : (s.tellIf b r).groups = s.groups := by cases b <;> rfl
@[simp] theorem State.tellIf_sent : (s.tellIf b r).sent = s.sent := by cases b <;> rfl
@[simp] theorem State.tellIf_pending : (s.tellIf b r).pending = s.pending := by cases b <;> rfl
@[simp] theorem State.tellIf_crane (d : CraneNo) : (s.tellIf b r).crane d = s.crane d := by cases b <;> rfl
@[simp] theorem State.tellIf_aisle (a : AisleNo) : (s.tellIf b r).aisle a = s.aisle a := by cases b <;> rfl
@[simp] theorem State.tellIf_station (a : AisleNo) : (s.tellIf b r).station a = s.station a := by cases b <;> rfl
@[simp] theorem State.tellIf_claimOf (d : CraneNo) : (s.tellIf b r).claimOf d = s.claimOf d := by cases b <;> rfl
@[simp] theorem State.tellIf_provingOf (d : CraneNo) : (s.tellIf b r).provingOf d = s.provingOf d := by cases b <;> rfl
@[simp] theorem State.tellIf_job_opt (i : JobId) : (s.tellIf b r).job? i = s.job? i := by cases b <;> rfl
@[simp] theorem State.tellIf_run_opt (i : RunId) : (s.tellIf b r).run? i = s.run? i := by cases b <;> rfl
@[simp] theorem State.tellIf_group_opt (i : GroupId) : (s.tellIf b r).group? i = s.group? i := by cases b <;> rfl
@[simp] theorem State.tellIf_loc (m : Loc) : (s.tellIf b r).loc m = s.loc m := by cases b <;> rfl

theorem State.tellIf_hli : (s.tellIf b r).hli = if b then s.hli.queue r else s.hli := by cases b <;> rfl
@[simp] theorem State.tellIf_input : (s.tellIf b r).hli.input = s.hli.input := by cases b <;> simp [State.tellIf]
@[simp] theorem State.tellIf_rx : (s.tellIf b r).hli.rx = s.hli.rx := by cases b <;> simp [State.tellIf]
@[simp] theorem State.tellIf_replies : (s.tellIf b r).hli.replies = s.hli.replies := by cases b <;> simp [State.tellIf]
@[simp] theorem State.tellIf_line : (s.tellIf b r).hli.line = s.hli.line := by cases b <;> simp [State.tellIf]
end

/-! ## Records, messages and notices -/

section
variable (w : Work)
@[simp] theorem Work.start_st (s : State) : (Work.start s).st = s := rfl
@[simp] theorem Work.onState_st (f : State → State) : (w.onState f).st = f w.st := rfl
@[simp] theorem Work.mapCrane_st (c : CraneNo) (f : Crane → Crane) : (w.mapCrane c f).st = w.st.mapCrane c f := rfl
@[simp] theorem Work.mapAisle_st (a : AisleNo) (f : Aisle → Aisle) : (w.mapAisle a f).st = w.st.mapAisle a f := rfl
@[simp] theorem Work.mapStation_st (a : AisleNo) (f : Station → Station) :
    (w.mapStation a f).st = w.st.mapStation a f := rfl
@[simp] theorem Work.mapJob_st (id : JobId) (f : Job → Job) : (w.mapJob id f).st = w.st.mapJob id f := rfl
@[simp] theorem Work.mapRun_st (id : RunId) (f : Run → Run) : (w.mapRun id f).st = w.st.mapRun id f := rfl
@[simp] theorem Work.order_st (c : CraneNo) (x : CraneOrder) : 
    (w.order c x).st = w.st.sendOut (.crane c x.tag x) := rfl
@[simp] theorem Work.stationOrder_st (x : StationOrder) : (w.stationOrder x).st = w.st.sendOut (.station x.tag x) := rfl
@[simp] theorem Work.report_st (r : Report) : (w.report r).st = w.st.reported r := rfl
@[simp] theorem Work.reportAisle_st (a : AisleNo) (k : Option StartFailure) :
    (w.reportAisle a k).st = w.st.reported (.aisleState a (w.st.aisle a).state k) := rfl
@[simp] theorem Work.noticeReady_st (id : JobId) (a : AisleNo) : (w.noticeReady id a).st = w.st := rfl
@[simp] theorem Work.noticeAvail_st (a : AisleNo) : (w.noticeAvail a).st = w.st := rfl
@[simp] theorem Work.mark_st (c : CraneNo) : (w.mark c).st = w.st := rfl
@[simp] theorem Work.evalAisle_st (a : AisleNo) : (w.evalAisle a).st = w.st := rfl
@[simp] theorem Work.claimDue_st (a : AisleNo) : (w.claimDue a).st = w.st := rfl
@[simp] theorem Work.closeDue_st (a : AisleNo) : (w.closeDue a).st = w.st := rfl
@[simp] theorem Work.startDue_st (a : AisleNo) : (w.startDue a).st = w.st := rfl
@[simp] theorem Work.askRelease_st : w.askRelease.st = w.st := rfl
@[simp] theorem Work.reach_st (t : Ms) : (w.reach t).st = { w.st with now := max w.st.now t } := rfl
@[simp] theorem Work.roomNotice_st (a : AisleNo) : (w.roomNotice a).st = w.st := by
  unfold Work.roomNotice; split <;> rfl

/-! ## Crane states, spans and deadlines -/

/-- Entering a state writes the state and the idle-since time (R56). -/
@[simp] theorem Work.enterQuiet_st (c : CraneNo) (st : CraneState) : (w.enterQuiet c st).st =
    w.st.mapCrane c (fun x => { x with state := st, idleSince := if st = .idle then some w.st.now else none }) := by
  unfold Work.enterQuiet; simp only; split <;> rfl

/-- The CRANE-STATE that an entry of a state queues. -/
def Work.entryReport (w : Work) (c : CraneNo) (st : CraneState) (fault : Option FaultCause) : Report :=
  .craneState { crane := c, state := st, link := (w.st.crane c).link, fault := fault,
                drift := match w.drift with
                  | some (d, mm) => if d = c then some mm else none
                  | none => none
                noAnswer := false, unmatched := false }

@[simp] theorem Work.enterQuiet_drift (c : CraneNo) (st : CraneState) : (w.enterQuiet c st).drift = w.drift := by
  unfold Work.enterQuiet; simp only; split <;> rfl

/-- Entering a state, with its report when the change is one of R56. -/
@[simp] theorem Work.enterAs_st (c : CraneNo) (st : CraneState) (fault : Option FaultCause) : (w.enterAs c st fault).st =
    (w.st.mapCrane c (fun x => { x with state := st, idleSince := if st = .idle then some w.st.now else none })).tellIf
      (Decidable.decide ((w.st.crane c).state ≠ st) && ((w.st.crane c).state.reported || st.reported))
      (w.entryReport c st fault) := by
  unfold Work.enterAs
  simp only
  split
  · next h =>
    simp [State.tellIf, h, Work.reportCraneAs, Work.entryReport] <;> rfl
  · next h =>
    by_cases h1 : (w.st.crane c).state = st
    · simp [State.tellIf, h1]
    · have : ((w.st.crane c).state.reported || st.reported) = false := by
        cases hr : ((w.st.crane c).state.reported || st.reported)
        · rfl
        · exact absurd ⟨h1, by simpa using hr⟩ h
      simp [State.tellIf, this]

@[simp] theorem Work.enter_st (c : CraneNo) (st : CraneState) : (w.enter c st).st =
    (w.st.mapCrane c (fun x => { x with state := st, idleSince := if st = .idle then some w.st.now else none })).tellIf
      (Decidable.decide ((w.st.crane c).state ≠ st) && ((w.st.crane c).state.reported || st.reported))
      (w.entryReport c st (w.st.crane c).fault) := Work.enterAs_st w c st _

@[simp] theorem Work.setSpan_st (c : CraneNo) (sp : Span) : (w.setSpan c sp).st =
    w.st.mapCrane c (fun x => { x with span := some sp }) := by
  unfold Work.setSpan; simp only; split <;> rfl

@[simp] theorem Work.shrinkSpan_st (c : CraneNo) (sp : Span) : (w.shrinkSpan c sp).st =
    w.st.mapCrane c (fun x => { x with span := some sp }) := by
  unfold Work.shrinkSpan; simp only; split <;> simp

@[simp] theorem Work.arm_st (c : CraneNo) (e : Ms) : (w.arm c e).st =
    w.st.mapCrane c (fun x => { x with motionDeadline := some (w.st.now + motionLimit (w.st.craneProf c) e) }) := rfl

@[simp] theorem Work.disarm_st (c : CraneNo) : (w.disarm c).st =
    w.st.mapCrane c (fun x => { x with motionDeadline := none }) := rfl

@[simp] theorem Work.sendStop_st (c : CraneNo) : (w.sendStop c).st =
    (w.st.mapCrane c (fun x => { x with stopDeadline := some (w.st.now + Config.stopAnswerTime) })).sendOut
      (.crane c 0 .stop) := rfl

/-! ## Wait reasons -/

/-- A reason is added to a job in WAITING or READY only (R25). -/
def addReason (r : Reason) (x : Job) : Job :=
  match x.state with
  | .ready => { x with state := .waiting, waits := x.waits.put r true, readySince := none }
  | .waiting => { x with waits := x.waits.put r true }
  | _ => x

@[simp] theorem Work.addWait_st (id : JobId) (r : Reason) : (w.addWait id r).st = w.st.mapJob id (addReason r) := rfl

@[simp] theorem Work.placeWait_st (id : JobId) (r : Reason) (b : Bool) : (w.placeWait id r b).st =
    w.st.mapJob id (fun x => { x with waits := x.waits.put r b }) := rfl

/-- A live job is made READY; nothing happens for an id that is not live. -/
theorem Work.makeReady_cases (id : JobId) : (w.makeReady id = w ∧ w.st.job? id = none) ∨
    ∃ j, w.st.job? id = some j ∧ (w.makeReady id).st =
      w.st.mapJob id (fun x => { x with state := .ready, waits := {}, readySince := some w.st.now }) := by
  unfold Work.makeReady
  cases h : w.st.job? id with
  | none => exact Or.inl ⟨rfl, rfl⟩
  | some j => exact Or.inr ⟨j, rfl, rfl⟩

/-- A reason is removed from a WAITING job that holds it, which becomes READY without a last one (R25). -/
theorem Work.delWait_cases (id : JobId) (r : Reason) : (w.delWait id r).st = w.st ∨
    ∃ j, w.st.job? id = some j ∧ j.state = .waiting ∧ j.waits.has r = true ∧
      ((w.delWait id r).st = w.st.mapJob id (fun x => { x with waits := j.waits.put r false }) ∨
       (w.delWait id r).st = (w.st.mapJob id (fun x => { x with waits := j.waits.put r false })).mapJob id
          (fun x => { x with state := .ready, waits := {}, readySince := some w.st.now })) := by
  unfold Work.delWait
  cases h : w.st.job? id with
  | none => exact Or.inl rfl
  | some j =>
    simp only
    split
    · next hc =>
      refine Or.inr ⟨j, rfl, hc.1, hc.2, ?_⟩
      split
      · rcases Work.makeReady_cases (w.mapJob id (fun x => { x with waits := j.waits.put r false })) id with h | ⟨k, _, h⟩
        · left; rw [h.1]; rfl
        · right; rw [h]; rfl
      · left; rfl
    · exact Or.inl rfl

/-! ## Locations -/

@[simp] theorem Work.writeOcc_st (l : Loc) (x : Occ) : (w.writeOcc l x).st =
    w.st.setLoc l { w.st.loc l with occ := x } := by
  unfold Work.writeOcc; simp only; split <;> rfl

@[simp] theorem Work.takePlace_st (id : JobId) (l : Loc) (tag : Tag) : (w.takePlace id l tag).st =
    (w.st.setLoc l { w.st.loc l with occ := .inbound tag id }).mapJob id (fun x => { x with dest := some (.loc l) }) := by
  simp [Work.takePlace]

/-- What a clearance request does (R123, R124): nothing while the parent has a live clearance job or a place in the wait list;
otherwise it is taken at once, or joins the list when no record is free. -/
theorem Work.requestClearance_cases (id : JobId) :
    (w.requestClearance id = w ∧ ((w.st.clearanceOf id).isSome = true ∨ w.st.jtb.clearWait.contains id = true)) ∨
    (w.requestClearance id = w.createClearance id ∧ w.st.clearanceOf id = none ∧ w.st.recordFree = true) ∨
    ((w.requestClearance id).st = { w.st with jtb := { w.st.jtb with clearWait := w.st.jtb.clearWait ++ [id] } } ∧
      w.st.clearanceOf id = none ∧ w.st.recordFree = false) := by
  unfold Work.requestClearance
  split
  · next h => exact .inl ⟨rfl, .inl h⟩
  · next h =>
    have k : w.st.clearanceOf id = none := by simpa using h
    split
    · next r => exact .inr (.inl ⟨rfl, k, r⟩)
    · next r =>
      split
      · next m => exact .inl ⟨rfl, .inr m⟩
      · exact .inr (.inr ⟨rfl, k, by simpa using r⟩)

/-- A list of ids with an id holds that id and those it held. -/
@[simp] theorem mem_withId (ids : List JobId) (i id : JobId) : i ∈ withId ids id ↔ i ∈ ids ∨ i = id := by
  unfold withId
  split
  · next h =>
    have : id ∈ ids := by simpa using h
    constructor
    · exact .inl
    · rintro (h | rfl)
      · exact h
      · exact this
  · simp

@[simp] theorem Work.noteMismatch_st (id : JobId) : (w.noteMismatch id).st =
    { w.st with jtb := { w.st.jtb with mismatched := withId w.st.jtb.mismatched id } } := rfl

@[simp] theorem Work.noteTarget_st (id : JobId) : (w.noteTarget id).st =
    { w.st with jtb := { w.st.jtb with targetOccupied := withId w.st.jtb.targetOccupied id } } := rfl

@[simp] theorem Work.noteHead_st (id : JobId) : (w.noteHead id).st =
    { w.st with jtb := { w.st.jtb with headTaken := withId w.st.jtb.headTaken id } } := rfl

/-- What is forgotten of a job: it is in none of the model's own lists, and every other job stays in them. -/
@[simp] theorem Jtb.forget_mismatched (t : Jtb) (id i : JobId) :
    i ∈ (t.forget id).mismatched ↔ i ∈ t.mismatched ∧ i ≠ id := by simp [Jtb.forget]

@[simp] theorem Jtb.forget_targetOccupied (t : Jtb) (id i : JobId) :
    i ∈ (t.forget id).targetOccupied ↔ i ∈ t.targetOccupied ∧ i ≠ id := by simp [Jtb.forget]

@[simp] theorem Jtb.forget_headTaken (t : Jtb) (id i : JobId) :
    i ∈ (t.forget id).headTaken ↔ i ∈ t.headTaken ∧ i ≠ id := by simp [Jtb.forget]

/-- A release leaves no record under a job: every INBOUND and OUTBOUND occupancy takes one without a holder (R9–R12). -/
@[simp] theorem releaseOcc_holder (rel : Release) (tag : Tag) (o : Occ) : (releaseOcc rel tag o).holder = none := by
  cases o <;> cases rel <;> rfl

end

end Sys2Proof.Machine
end

