-- ==== Sys2Proof/Laws/Settling.lean ====
section
/-! SUPPORT. What the end of an event can do (`Work.settle`), said once: it is a sequence of the small actions of
`Work.Settles`, each with the condition under which it is taken. A property that every small action keeps is kept by the end
of every event. -/

namespace Sys2Proof.Machine

/-- One small action of the end of an event. -/
inductive Work.Settles : Work → Work → Prop
  /-- only notices change -/
  | notice {w w' : Work} (h : w'.st = w.st) : Settles w w'
  /-- R155: LOAD is added -/
  | addLoad (w : Work) (id : JobId) : Settles w (w.addWait id .load)
  /-- R155: LOAD is removed -/
  | unload (w : Work) (id : JobId) (j : Job) (hj : w.st.job? id = some j) (hs : j.state = .waiting) :
      Settles w (w.mapJob id (fun x => { x with waits := j.waits.put .load false }))
  /-- R25: a WAITING job without reasons becomes READY -/
  | ready (w : Work) (id : JobId) (j : Job) (hj : w.st.job? id = some j) (hs : j.state = .waiting) :
      Settles w (w.mapJob id (fun x => { x with state := .ready, waits := {}, readySince := some w.st.now }))
  /-- R82, R104: REFERENCE is sent to an IDLE crane -/
  | reference (w : Work) (c : CraneNo) (hc : (w.st.crane c).state = .idle) : Settles w (w.sendReference c)
  /-- R85, R98: a pending CARRY is sent -/
  | carry (w : Work) (c : CraneNo) (j : Job) (d : Place) (hc : (w.st.crane c).state = .reference)
      (hp : (w.st.crane c).carryPending = true) (hj : w.st.craneJob? c = some j) (hd : j.dest = some d) :
      Settles w (w.sendCarry c j.id d)
  /-- R97: a CARRY stays pending -/
  | pend (w : Work) (c : CraneNo) (hc : (w.st.crane c).state = .reference) (hp : (w.st.crane c).carryPending = true) :
      Settles w (w.mapCrane c (fun x => { x with carryPending := true }))
  /-- R95: an IDLE crane is asked to yield -/
  | yields (w : Work) (c : CraneNo) (t : Nat) (hc : (w.st.crane c).state = .idle) : Settles w (w.sendMove c t .yielding)
  /-- R78: the reason NO-PLACE of a waiting crane's job is removed -/
  | unblock (w : Work) (c : CraneNo) (id : JobId) (hc : (w.st.crane c).state = .place)
      (hl : (w.st.crane c).leg = some .waiting) (hj : (w.st.crane c).job = some id) :
      Settles w (w.placeWait id .noPlace false)
  /-- R8, R129: a place is reserved, for a waiting crane's job or a READY job without a destination -/
  | take (w : Work) (id : JobId) (l : Loc) (tag : Tag) (he : (w.st.loc l).occ = .empty) (hu : (w.st.loc l).locked = false)
      (hw : (∃ c, (w.st.crane c).state = .place ∧ (w.st.crane c).leg = some .waiting ∧ (w.st.crane c).job = some id) ∨
        ∃ j, w.st.job? id = some j ∧ j.state = .ready ∧ j.dest = none) : Settles w (w.takePlace id l tag)
  /-- R78: PLACE-AGAIN is sent to a waiting crane -/
  | again (w : Work) (c : CraneNo) (id : JobId) (l : Loc) (hc : (w.st.crane c).state = .place)
      (hl : (w.st.crane c).leg = some .waiting) (hj : (w.st.crane c).job = some id) :
      Settles w (w.sendPlaceAgain c id (.loc l))
  /-- R119: a marked copy is adopted -/
  | adopt (w : Work) (a : AisleNo) (hm : (w.st.aisle a).marked = true) : Settles w (w.adopt a)
  /-- R111: a READY job is given to an IDLE crane -/
  | lead (w : Work) (c : CraneNo) (j : Job) (hc : (w.st.crane c).state = .idle) (hj : w.st.job? j.id = some j ∨
      ∃ k, w.st.job? j.id = some k ∧ k.state = .ready) (hs : j.state = .ready) :
      Settles w ((w.mapJob j.id (fun x => { x with state := .lead, crane := some c, readySince := none })).mapCrane c
        (fun x => { x with job := some j.id }))
  /-- R156: an outfeed place is reserved -/
  | reserved (w : Work) (a : AisleNo) (id : JobId) :
      Settles w (w.mapStation a (fun x => { x with reserved := x.reserved ++ [id] }))
  /-- R111: CYCLE is sent to an IDLE crane -/
  | cycle (w : Work) (c : CraneNo) (j : Job) (hc : (w.st.crane c).state = .idle) : Settles w (w.sendCycle c j)
  /-- R94: an IDLE crane holds -/
  | hold (w : Work) (c : CraneNo) (hc : (w.st.crane c).state = .idle) : Settles w (w.enter c .hold)
  /-- R111: the pointers of the schedule move -/
  | pointers (w : Work) (a : AisleNo) (st : Stage) : Settles w (w.mapAisle a (fun x => x.stepped st))
  /-- R115: a READY job is promised to a crane in LEAD without an outstanding order -/
  | promise (w : Work) (k : Job) (c : CraneNo) (cl : Span) (hc : (w.st.crane c).state = .lead)
      (ho : (w.st.crane c).order = .none) (hk : w.st.job? k.id = some k) (hs : k.state = .ready) :
      Settles w (w.promise k c cl)
  /-- R178, R185: a start succeeds -/
  | opened (w : Work) (a : AisleNo) (ha : (w.st.aisle a).state = .starting) (hd : w.st.startDone a = true) :
      Settles w ((w.mapAisle a (fun x => { x with state := .opened, start := none })).reportAisle a none)
  /-- R181: a crane of a closing aisle enters OFFLINE -/
  | offline (w : Work) (c : CraneNo) (ha : (w.st.aisle (aisleOf c)).state = .closing)
      (hc : (w.st.crane c).letsClose = true) : Settles w (w.goOffline c none)
  /-- R181: a close ends -/
  | closed (w : Work) (a : AisleNo) (ha : (w.st.aisle a).state = .closing) :
      Settles w ((w.mapAisle a (fun x => { x with state := .closed })).reportAisle a none)
  /-- R165: a release -/
  | release (w : Work) (a : AisleNo) (u : Bool) (hm : w.st.mayRelease = true) (hw : w.st.releaseWinner = some (a, u)) :
      Settles w (((w.stationOrder (.release a)).mapStation a (fun x => { x with releasing := true })).onState (fun s =>
        { s with stu := { s.stu with collector := .busy, rotation := if u then a + 1 else s.stu.rotation } }))
  /-- R146: a run ends -/
  | runEnd (w : Work) (id : RunId) (r : Run) (hr : w.st.run? id = some r) :
      Settles w ((w.report (.runEnded id (r.cause.getD .request) r.completed r.failed r.skipped r.toSpawn)).onState
        (fun s => { s with rnu := { s.rnu with runs := s.rnu.runs.filter (fun x => x.id != id) } }))
  /-- R142: a record-free notice is given -/
  | free (w : Work) (hf : w.st.recordFree = true) :
      Settles w (w.onState (fun s => { s with jtb := { s.jtb with freeNotices := s.jtb.freeNotices + 1 } }))

/-- A sequence of small actions. -/
inductive Work.Settled : Work → Work → Prop
  | refl (w : Work) : Settled w w
  | tail {w v u : Work} (h : Settled w v) (k : Settles v u) : Settled w u

namespace Work.Settled

theorem one {w v : Work} (h : Work.Settles w v) : Work.Settled w v := .tail (.refl w) h

theorem trans {w v u : Work} (h : Work.Settled w v) (k : Work.Settled v u) : Work.Settled w u := by
  induction k with
  | refl => exact h
  | tail _ k ih => exact .tail ih k

theorem notice {w v : Work} (h : v.st = w.st) : Work.Settled w v := one (.notice h)

/-- A fold of actions is a sequence of actions. -/
theorem foldl {α : Type} (f : Work → α → Work) (hf : ∀ w x, Work.Settled w (f w x)) (xs : List α) (w : Work) :
    Work.Settled w (xs.foldl f w) := by
  induction xs generalizing w with
  | nil => exact .refl w
  | cons x xs ih => exact (hf w x).trans (ih (f w x))

/-- A property of the state that every small action keeps is kept by a sequence of them. -/
theorem keep {P : State → Prop} (hP : ∀ w v, Work.Settles w v → P w.st → P v.st) {w v : Work} (h : Work.Settled w v)
    (hw : P w.st) : P v.st := by
  induction h with
  | refl => exact hw
  | tail _ k ih => exact hP _ _ k ih

/-- A part of the state that every small action leaves is left by a sequence of them. -/
theorem same {α : Type} {f : State → α} (hf : ∀ w v, Work.Settles w v → f v.st = f w.st) {w v : Work}
    (h : Work.Settled w v) : f v.st = f w.st := by
  induction h with
  | refl => rfl
  | tail _ k ih => exact (hf _ _ k).trans ih

end Work.Settled

open Work.Settled (one)

/-! ## The end of an event is such a sequence -/

theorem Work.delLoad_settled (w : Work) (id : JobId) : w.Settled (w.delWait id .load) := by
  rcases w.delWait_cases id .load with h | ⟨j, hj, hs, _, h | h⟩
  · exact .notice h
  · exact (one (.unload w id j hj hs)).trans (.notice h)
  · refine ((one (.unload w id j hj hs)).trans (one (.ready _ id { j with waits := j.waits.put .load false } ?_ hs))).trans
      (.notice ?_)
    · simp only [Work.mapJob_st]
      have e := State.mapJob_job w.st id id (fun x => { x with waits := j.waits.put .load false }) (fun _ => rfl)
      rw [e, hj]
      simp [(State.job_mem hj).2]
    · exact h

theorem Work.evalClaim_settled (w : Work) (a : AisleNo) : w.Settled (w.evalClaim a) := by
  unfold Work.evalClaim
  refine Work.Settled.foldl _ (fun w j => ?_) _ w
  split
  · exact w.delLoad_settled j.id
  · exact one (.addLoad w j.id)

theorem Work.retestCarry_settled (w : Work) (c : CraneNo) : w.Settled (w.retestCarry c) := by
  unfold Work.retestCarry
  split
  · next h =>
    have hp := one (.pend w c h.1 h.2)
    unfold Work.tryCarry
    simp only
    cases hj : w.st.craneJob? c with
    | none => exact .refl w
    | some j =>
      simp only
      cases hd : j.dest with
      | none => exact hp
      | some d =>
        cases hpos : (w.st.crane c).pos with
        | none => exact hp
        | some pos =>
          simp only
          split
          · split
            · exact one (.carry w c j d h.1 h.2 hj hd)
            · next t hr =>
              split
              · refine hp.trans (one (.yields _ _ t ?_))
                have hy : w.st.yieldTest c (hull2 pos.1 (d.bay (w.st.craneProf c))) = some t := by
                  unfold State.railTest at hr
                  split at hr
                  · cases hr
                  · split at hr
                    · next y hy => cases hr; exact hy
                    · cases hr
                have hi : (w.st.crane (other c)).state = .idle := by
                  unfold State.yieldTest at hy
                  simp only at hy
                  split at hy
                  · next hc => exact hc.1
                  · cases hy
                have hne : other c ≠ c := by
                  intro e; rw [e] at hi; rw [hi] at h; cases h.1
                simpa [State.mapCrane_crane, hne] using hi
              · exact hp
            · exact hp
          · exact hp
  · exact .refl w

/-- What a selected place is: a candidate of the aisle. -/
theorem State.selectPlace_empty {s : State} {c : CraneNo} {start : Option Point} {ok : Loc → Bool} {l : Loc}
    (h : s.selectPlace c start ok = some l) : (s.loc l).occ = .empty ∧ (s.loc l).locked = false ∧ ok l = true := by
  have key : ∀ (f : Loc → Ms) (xs : List Loc) (b : Option (Ms × Loc)) (y : Ms × Loc),
      xs.foldl (fun best x => closer best (f x, x)) b = some y → y.2 ∈ xs ∨ b = some y := by
    intro f xs
    induction xs with
    | nil => intro b y h; exact Or.inr h
    | cons x xs ih =>
      intro b y h
      rcases ih _ y h with h | h
      · exact Or.inl (by simp [h])
      · cases b with
        | none => simp only [closer, Option.some.injEq] at h; exact Or.inl (by simp [← h])
        | some b =>
          simp only [closer] at h
          split at h
          · simp only [Option.some.injEq] at h; exact Or.inl (by simp [← h])
          · exact Or.inr h
  unfold State.selectPlace at h
  simp only [Option.map_eq_some_iff] at h
  obtain ⟨y, hy, rfl⟩ := h
  rcases key (fun l => fromPosition (s.craneProf c) start (l.bay, l.level)) _ _ _ hy with h | h
  · simp only [List.mem_filter, Bool.and_eq_true, State.isCandidate, decide_eq_true_eq, Bool.not_eq_true'] at h
    exact ⟨h.2.1.1.1.2, h.2.1.1.2, h.2.2⟩
  · cases h

theorem Work.retryPlace_settled (w : Work) (c : CraneNo) : w.Settled (w.retryPlace c) := by
  unfold Work.retryPlace
  simp only
  cases hj : w.st.craneJob? c with
  | none => exact .refl w
  | some j =>
    simp only
    split
    · next h =>
      split
      · next l hl =>
        have hjob := (State.craneJob_spec hj).1
        cases hx : (w.st.crane c).standing with
        | none => simp [hx] at hl
        | some x =>
          simp only [hx, Option.bind_some, State.selectFrom] at hl
          obtain ⟨he, hu, _⟩ := State.selectPlace_empty hl
          refine ((one (.unblock w c j.id h.1 h.2.1 hjob)).trans (one (.take _ j.id l (tagOr0 j.tagRead) ?_ ?_ ?_))).trans
            (one (.again _ c j.id l ?_ ?_ ?_))
          · simpa using he
          · simpa using hu
          · exact Or.inl ⟨c, by simpa using h.1, by simpa using h.2.1, by simpa using hjob⟩
          · simpa using h.1
          · simpa using h.2.1
          · simpa using hjob
      · exact .refl w
    · exact .refl w

theorem Work.peer_settled (avail : List AisleNo) (marks : List CraneNo) (w : Work) (c : CraneNo) :
    w.Settled (Work.peer avail marks w c) := by
  unfold Work.peer
  simp only
  split <;> split
  · exact (w.retestCarry_settled c).trans (Work.retryPlace_settled _ c)
  · exact w.retryPlace_settled c
  · exact w.retestCarry_settled c
  · exact .refl w

theorem Work.peers_settled (n : Nat) (w : Work) : w.Settled (Work.peers n w) := by
  induction n generalizing w with
  | zero => exact .refl w
  | succ n ih =>
    unfold Work.peers
    split
    · exact .refl w
    · have h : w.Settled (allCranes.foldl (Work.peer w.avail w.marks) { w with avail := [], marks := [] }) :=
        (Work.Settled.notice (w := w) (v := { w with avail := [], marks := [] }) rfl).trans
          (Work.Settled.foldl _ (fun v c => Work.peer_settled w.avail w.marks v c) allCranes _)
      exact h.trans (ih _)

theorem Work.takeClaims_settled (w : Work) : w.Settled w.takeClaims :=
  (Work.Settled.notice (w := w) (v := { w with claimsDue := [] }) rfl).trans
    (Work.Settled.foldl _ (fun w a => w.evalClaim_settled a) _ _)

theorem Work.finishStart_settled (w : Work) (a : AisleNo) : w.Settled (w.finishStart a) := by
  unfold Work.finishStart
  split
  · next h =>
    refine (one (.opened w a h.1 h.2)).trans ?_
    simp only
    refine Work.Settled.foldl _ (fun v c => ?_) _ _
    exact .notice rfl
  · exact .refl w

theorem Work.takeStarts_settled (w : Work) : w.Settled w.takeStarts :=
  (Work.Settled.notice (w := w) (v := { w with startsDue := [] }) rfl).trans
    (Work.Settled.foldl _ (fun w a => w.finishStart_settled a) _ _)

/-! ### Decisions -/

/-- The job an entry gives is a live job that is eligible. -/
theorem State.entryJob_spec {s : State} {c : CraneNo} {e : Entry} {j : Job} (h : s.entryJob c e = some j) :
    s.job? j.id = some j ∧ s.eligible c j = true := by
  have key : ∀ (p : Profile) (pos : Option Point) (xs : List Job) (b : Option Job) (y : Job),
      xs.foldl (fun best x => match best with
        | none => some x
        | some b => if firstChoice p pos x b then some x else some b) b = some y → y ∈ xs ∨ b = some y := by
    intro p pos xs
    induction xs with
    | nil => intro b y h; exact Or.inr h
    | cons x xs ih =>
      intro b y h
      rcases ih _ y h with h | h
      · exact Or.inl (by simp [h])
      · cases b with
        | none => simp only [Option.some.injEq] at h; exact Or.inl (by simp [← h])
        | some b =>
          simp only at h
          split at h
          · simp only [Option.some.injEq] at h; exact Or.inl (by simp [← h])
          · exact Or.inr h
  unfold State.entryJob at h
  split at h
  · cases h
  · next q _ =>
    split at h
    · rcases key _ _ _ _ _ h with h | h
      · simp only [List.mem_filter, Bool.and_eq_true, State.queueJobs, List.mem_filterMap] at h
        obtain ⟨⟨i, _, hi⟩, _, he⟩ := h
        have := (State.job_mem hi).2
        exact ⟨by rw [this]; exact hi, he⟩
      · cases h
    · cases h

theorem State.firstMatch_spec {s : State} {c : CraneNo} {es : List (Nat × Entry)} {i : Nat} {j : Job}
    (h : s.firstMatch c es = some (i, j)) : s.job? j.id = some j ∧ s.eligible c j = true := by
  induction es with
  | nil => cases h
  | cons e es ih =>
    obtain ⟨n, e⟩ := e
    unfold State.firstMatch at h
    split at h
    · next k hk => cases h; exact State.entryJob_spec hk
    · exact ih h

/-- The job a decision chooses is a live job that is eligible. -/
theorem State.choose_spec {s : State} {c : CraneNo} {st : Stage} {j : Job} (h : s.choose c = some (st, j)) :
    s.job? j.id = some j ∧ s.eligible c j = true := by
  unfold State.choose at h
  simp only at h
  split at h
  · next hm => cases h; exact State.firstMatch_spec hm
  · split at h
    · next hm => cases h; exact State.firstMatch_spec hm
    · split at h
      · next hm => cases h; exact State.firstMatch_spec hm
      · split at h
        · next hm => cases h; exact State.firstMatch_spec hm
        · cases h

/-- What an offer rests on: the job is READY, and its destination is its own, or a candidate place. -/
theorem State.offer_spec {s : State} {c : CraneNo} {j : Job} {o : Offer} (h : s.offer c j = some o) :
    s.mayTake c j = true ∧ s.railOffer c j o.dest = some o ∧
    (j.dest = some o.dest ∨ ∃ l, j.dest = none ∧ o.dest = .loc l ∧ (s.loc l).occ = .empty ∧ (s.loc l).locked = false) := by
  have hr : ∀ d, s.railOffer c j d = some o → o.dest = d := by
    intro d h
    unfold State.railOffer at h
    simp only at h
    split at h
    · cases h
    · simp only [Option.map_eq_some_iff] at h
      obtain ⟨_, _, rfl⟩ := h
      rfl
  unfold State.offer at h
  split at h
  · next hm =>
    refine ⟨hm, ?_⟩
    split at h
    · next d hd =>
      have := hr d h
      subst this
      exact ⟨h, Or.inl hd⟩
    · next hd =>
      split at h
      · next l hl =>
        have := hr _ h
        obtain ⟨he, hu, _⟩ := State.selectPlace_empty hl
        exact ⟨by rw [this]; exact h, Or.inr ⟨l, hd, this, he, hu⟩⟩
      · cases h
  · cases h

theorem State.mayTake_ready {s : State} {c : CraneNo} {j : Job} (h : s.mayTake c j = true) : j.state = .ready := by
  unfold State.mayTake at h
  simp only [Bool.and_eq_true, decide_eq_true_eq] at h
  exact h.1.1.1.1.1

/-- A yield is offered only by the other crane, which is IDLE. -/
theorem State.railOffer_yield {s : State} {c : CraneNo} {j : Job} {d : Place} {o : Offer} {t : Nat}
    (h : s.railOffer c j d = some o) (ht : o.yieldTo = some t) : (s.crane (other c)).state = .idle := by
  unfold State.railOffer at h
  simp only at h
  split at h
  · cases h
  · simp only [Option.map_eq_some_iff] at h
    obtain ⟨y, hy, rfl⟩ := h
    simp only at ht
    subst ht
    unfold State.railTest at hy
    split at hy
    · cases hy
    · split at hy
      · next b hb =>
        unfold State.yieldTest at hb
        simp only at hb
        split at hb
        · next hc => exact hc.1
        · cases hb
      · cases hy

theorem other_ne (c : CraneNo) : other c ≠ c := by
  revert c; decide

theorem Work.grant_settled (w : Work) (c : CraneNo) (st : Stage) (j : Job) (o : Offer)
    (hc : (w.st.crane c).state = .idle) (hj : w.st.job? j.id = some j) (ho : w.st.offer c j = some o) :
    w.Settled (w.grant c st j o) := by
  obtain ⟨hm, hr, hd⟩ := State.offer_spec ho
  have hs := State.mayTake_ready hm
  -- the reservation of a place
  have h1 : ∃ v, w.Settled v ∧ (v.st.crane = w.st.crane) ∧ (∃ k, v.st.job? j.id = some k ∧ k.state = .ready) ∧
      w.settlePlace j o.dest = v := by
    rcases hd with hd | ⟨l, hd, hl, he, hu⟩
    · exact ⟨w, .refl w, rfl, ⟨j, hj, hs⟩, by simp [Work.settlePlace, hd]⟩
    · refine ⟨w.takePlace j.id l j.expTag, one (.take w j.id l j.expTag he hu (Or.inr ⟨j, hj, hs, hd⟩)), ?_,
        ⟨{ j with dest := some (.loc l) }, ?_, hs⟩, by simp [Work.settlePlace, hd, hl]⟩
      · funext d; simp
      · simp only [Work.takePlace_st]
        rw [State.mapJob_job _ j.id j.id (fun x => { x with dest := some (.loc l) }) (fun _ => rfl), State.setLoc_job_opt, hj]
        simp
  obtain ⟨v, hv, hvc, hvj, e⟩ := h1
  unfold Work.grant
  simp only
  rw [e]
  have hvc' : (v.st.crane c).state = .idle := by rw [hvc]; exact hc
  have h2 := hv.trans (one (.lead v c j hvc' (Or.inr hvj) hs))
  -- the outfeed reservation
  have h3 : ∀ u : Work, u.Settled (u.reserve j) ∧ (u.reserve j).st.crane = u.st.crane := by
    intro u
    unfold Work.reserve
    split
    · exact ⟨one (.reserved u _ _), by funext d; simp⟩
    · exact ⟨.refl u, rfl⟩
  have h4 := h2.trans (h3 _).1
  have hidle : ∀ d, ((((v.mapJob j.id (fun x => { x with state := .lead, crane := some c, readySince := none })).mapCrane c
      (fun x => { x with job := some j.id })).reserve j).st.crane d).state = (w.st.crane d).state := by
    intro d
    rw [(h3 _).2]
    simp only [Work.mapCrane_st, State.mapCrane_crane, Work.mapJob_st, State.mapJob_crane, hvc]
    split
    · next e => subst e; rfl
    · rfl
  refine Work.Settled.tail ?_ (.pointers _ _ st)
  cases hy : o.yieldTo with
  | none => exact h4.tail (.cycle _ c _ (by rw [hidle]; exact hc))
  | some t =>
    refine (h4.tail (.hold _ c (by rw [hidle]; exact hc))).tail (.yields _ _ t ?_)
    simp only [Work.enter_st, State.tellIf_crane, State.mapCrane_crane, other_ne, if_false, hidle]
    exact State.railOffer_yield hr hy

theorem Work.decide_settled (w : Work) (c : CraneNo) : w.Settled (w.decide c) := by
  unfold Work.decide
  split
  · next h =>
    have hi : (w.st.crane c).state = .idle := by
      have := h.1
      unfold State.available at this
      simp only [Bool.and_eq_true, decide_eq_true_eq] at this
      exact this.1.1.1.1.1.1
    have ha : w.Settled (w.adoptAtDecision (aisleOf c)) ∧
        ((w.adoptAtDecision (aisleOf c)).st.crane c) = w.st.crane c := by
      unfold Work.adoptAtDecision
      split
      · next hm => exact ⟨one (.adopt w _ hm.1), by simp [Work.adopt]⟩
      · exact ⟨.refl w, rfl⟩
    simp only
    split
    · exact ha.1
    · next st j hch =>
      split
      · next o ho =>
        exact ha.1.trans (Work.grant_settled _ c st j o (by rw [ha.2]; exact hi) (State.choose_spec hch).1 ho)
      · exact ha.1
  · exact .refl w

/-- The crane chosen for a redirect is in LEAD, without an outstanding order. -/
theorem State.redirectChoice_spec {s : State} {k : Job} {c : CraneNo} {cl : Span}
    (h : s.redirectChoice k = some (c, cl)) :
    (s.crane c).state = .lead ∧ (s.crane c).order = .none ∧ ∃ j, s.qualifies k c = some (j, cl) := by
  have key : ∀ (est : CraneNo → Ms) (xs : List (CraneNo × Job × Span)) (b : Option (CraneNo × Job × Span)) y,
      xs.foldl (fun (best : Option (CraneNo × Job × Span)) x => match best with
        | none => some x
        | some b =>
          if b.2.1.urgency < x.2.1.urgency then some x
          else if b.2.1.urgency = x.2.1.urgency ∧ est x.1 < est b.1 then some x
          else some b) b = some y → y ∈ xs ∨ b = some y := by
    intro est xs
    induction xs with
    | nil => intro b y h; exact Or.inr h
    | cons x xs ih =>
      intro b y h
      rcases ih _ y h with h | h
      · exact Or.inl (by simp [h])
      · cases b with
        | none => simp only [Option.some.injEq] at h; exact Or.inl (by simp [← h])
        | some b =>
          simp only at h
          split at h
          · simp only [Option.some.injEq] at h; exact Or.inl (by simp [← h])
          · split at h
            · simp only [Option.some.injEq] at h; exact Or.inl (by simp [← h])
            · exact Or.inr h
  unfold State.redirectChoice at h
  simp only [Option.map_eq_some_iff] at h
  obtain ⟨y, hy, he⟩ := h
  rcases key (fun d => leadEstimate (s.craneProf d) (s.crane d).pos k.source) _ _ _ hy with h | h
  · simp only [List.mem_filterMap, Option.map_eq_some_iff] at h
    obtain ⟨d, _, ⟨j, sp⟩, hq, rfl⟩ := h
    simp only [Prod.mk.injEq] at he
    obtain ⟨rfl, rfl⟩ := he
    refine ⟨?_, ?_, j, hq⟩ <;>
    · unfold State.qualifies at hq
      simp only at hq
      split at hq
      · split at hq
        · next hc => first | exact hc.1 | exact hc.2.1
        · cases hq
      · cases hq
  · cases h

theorem Work.redirect_settled (w : Work) (id : JobId) : w.Settled (w.redirect id).1 := by
  unfold Work.redirect
  cases hk : w.st.job? id with
  | none => exact .refl w
  | some k =>
    simp only
    split
    · next hp =>
      split
      · next c cl hc =>
        obtain ⟨h1, h2, _⟩ := State.redirectChoice_spec hc
        have hid := (State.job_mem hk).2
        refine one (.promise w k c cl h1 h2 (by rw [hid]; exact hk) ?_)
        unfold State.promotable at hp
        simp only [Bool.and_eq_true, decide_eq_true_eq] at hp
        exact hp.1.1.1.1.1
      · exact .refl w
    · exact .refl w

theorem Work.sweepJobs_settled (js : List Job) (w : Work) : w.Settled (Work.sweepJobs js w) := by
  induction js generalizing w with
  | nil => exact .refl w
  | cons k js ih =>
    have h := w.redirect_settled k.id
    unfold Work.sweepJobs
    split
    · next v hv => rw [hv] at h; exact h.trans (ih v)
    · next v hv => rw [hv] at h; exact h

theorem Work.evaluate_settled (w : Work) (a : AisleNo) (ready : List JobId) (swept : Bool) :
    w.Settled (w.evaluate a ready swept) := by
  unfold Work.evaluate
  split
  · have h : w.Settled ((w.st.decisionOrder a).foldl (fun w c => w.decide c) w) :=
      Work.Settled.foldl _ (fun w c => w.decide_settled c) _ w
    simp only
    split
    · exact h.trans (Work.sweepJobs_settled _ _)
    · exact h.trans (Work.Settled.foldl _ (fun w (k : Job) => w.redirect_settled k.id) _ _)
  · exact .refl w

theorem Work.referenceWhen_settled (r : RefStatus) (w : Work) (c : CraneNo) : w.Settled (Work.referenceWhen r w c) := by
  unfold Work.referenceWhen
  split
  · next h =>
    simp only [State.idleWith, Bool.and_eq_true, decide_eq_true_eq] at h
    exact one (.reference w c h.1.1)
  · exact .refl w

theorem Work.aisleTurn_settled (idle : List CraneNo) (ready : List JobId) (evals sweeps : List AisleNo) (w : Work)
    (a : AisleNo) : w.Settled (Work.aisleTurn idle ready evals sweeps w a) := by
  unfold Work.aisleTurn
  split
  · simp only
    have h1 := Work.Settled.foldl _ (fun w c => Work.referenceWhen_settled .forced w c)
      (idle.filter (fun c => aisleOf c = a)) w
    refine (h1.trans ?_).trans (Work.Settled.foldl _ (fun w c => Work.referenceWhen_settled .due w c) _ _)
    split
    · exact Work.evaluate_settled _ a ready _
    · exact .refl _
  · exact .refl w

theorem Work.takeTurns_settled (w : Work) : w.Settled w.takeTurns :=
  (Work.Settled.notice (w := w) (v := { w with idle := [], ready := [], evals := [], sweeps := [] }) rfl).trans
    (Work.Settled.foldl _ (fun v a => Work.aisleTurn_settled w.idle w.ready w.evals w.sweeps v a) allAisles _)

theorem Work.passes_settled (n : Nat) (w : Work) : w.Settled (Work.passes n w) := by
  induction n generalizing w with
  | zero => exact .refl w
  | succ n ih =>
    unfold Work.passes
    split
    · exact .refl w
    · exact ((((w.takeClaims_settled.trans (Work.peers_settled _ _)).trans (Work.takeStarts_settled _)).trans
        (Work.peers_settled _ _)).trans (Work.takeTurns_settled _)).trans (ih _)

theorem Work.takeRelease_settled (w : Work) : w.Settled w.takeRelease := by
  unfold Work.takeRelease
  split
  · unfold Work.releaseDecision
    split
    · next hm =>
      split
      · exact .notice rfl
      · next a u hw => exact (one (.release w a u hm hw)).trans (.notice rfl)
    · exact .notice rfl
  · exact .refl w

/-- One crane's close leaves what another crane and the aisles are. -/
theorem Work.goOffline_crane_other (w : Work) (c d : CraneNo) (h : d ≠ c) :
    (w.goOffline c none).st.crane d = w.st.crane d := by
  simp [Work.goOffline, State.mapCrane_crane, h]

theorem Work.goOffline_aisle (w : Work) (c : CraneNo) (a : AisleNo) :
    (w.goOffline c none).st.aisle a = w.st.aisle a := by
  simp [Work.goOffline]

theorem Work.offlines_settled (a : AisleNo) (cs : List CraneNo) (hn : cs.Nodup) (ha : ∀ c ∈ cs, aisleOf c = a) (w : Work)
    (hs : (w.st.aisle a).state = .closing) (hl : ∀ c ∈ cs, (w.st.crane c).letsClose = true) :
    w.Settled (cs.foldl (fun w c => w.goOffline c none) w) ∧
      ((cs.foldl (fun w c => w.goOffline c none) w).st.aisle a).state = .closing := by
  induction cs generalizing w with
  | nil => exact ⟨.refl w, hs⟩
  | cons c cs ih =>
    obtain ⟨h1, h2⟩ := List.nodup_cons.1 hn
    have hc := ha c (by simp)
    have k := ih h2 (fun d hd => ha d (by simp [hd])) (w.goOffline c none) (by rw [Work.goOffline_aisle]; exact hs)
      (fun d hd => by
        have hne : d ≠ c := fun e => h1 (e ▸ hd)
        rw [Work.goOffline_crane_other w c d hne]
        exact hl d (by simp [hd]))
    exact ⟨Work.Settled.trans (one (.offline w c (by rw [hc]; exact hs) (hl c (by simp)))) k.1, k.2⟩

theorem cranesOf_spec : ∀ a : AisleNo, (cranesOf a).Nodup ∧ ∀ c ∈ cranesOf a, aisleOf c = a := by decide

theorem Work.finishClose_settled (w : Work) (a : AisleNo) : w.Settled (w.finishClose a) := by
  unfold Work.finishClose
  split
  · next h =>
    have hp : ∀ c ∈ w.st.presentOf a, c ∈ cranesOf a := fun c hc => (List.mem_filter.1 hc).1
    have k := Work.offlines_settled a (w.st.presentOf a) ((cranesOf_spec a).1.sublist List.filter_sublist)
      (fun c hc => (cranesOf_spec a).2 c (hp c hc)) w h.1 (by simpa using h.2)
    exact k.1.tail (.closed _ a k.2)
  · exact .refl w

theorem Work.takeCloses_settled (w : Work) : w.Settled w.takeCloses :=
  (Work.Settled.notice (w := w) (v := { w with closesDue := [] }) rfl).trans
    (Work.Settled.foldl _ (fun w a => w.finishClose_settled a) _ _)

theorem Work.takeRunEnds_settled (w : Work) : w.Settled w.takeRunEnds :=
  (Work.Settled.notice (w := w) (v := { w with runEnds := [], deferRuns := false }) rfl).trans
    (Work.Settled.foldl _ (fun w id => by
      unfold Work.finishRun
      cases hr : w.st.run? id with
      | none => exact .refl w
      | some r => exact one (.runEnd w id r hr)) _ _)

theorem Work.giveFree_settled (w : Work) : w.Settled w.giveFree := by
  unfold Work.giveFree
  split
  · next h => exact (one (.free w h.2)).trans (.notice rfl)
  · exact .refl w

/-- The end of an event's work is a sequence of small actions. -/
theorem Work.settle_settled (w : Work) : w.Settled w.settle :=
  ((((Work.passes_settled _ w).trans (Work.takeRelease_settled _)).trans (Work.takeCloses_settled _)).trans
    (Work.takeRunEnds_settled _)).trans (Work.giveFree_settled _)

end Sys2Proof.Machine
end

