-- ==== Sys2Proof/Laws/Kept.lean ====
section
/-! SUPPORT. What the end of an event leaves: parts of the state that no small action of Laws/Settling.lean changes, and so
`Work.settle` does not change. -/

namespace Sys2Proof.Machine

/-! ## A part of one record that an update leaves -/

section
variable (s : State)

@[simp] theorem State.mapCrane_role (c d : CraneNo) (f : Crane → Crane) (hf : ∀ x, (f x).role = x.role) :
    ((s.mapCrane c f).crane d).role = (s.crane d).role := by
  rw [State.mapCrane_crane]; split
  · next e => rw [e, hf]
  · rfl

@[simp] theorem State.mapCrane_load (c d : CraneNo) (f : Crane → Crane) (hf : ∀ x, (f x).load = x.load) :
    ((s.mapCrane c f).crane d).load = (s.crane d).load := by
  rw [State.mapCrane_crane]; split
  · next e => rw [e, hf]
  · rfl

@[simp] theorem State.mapCrane_cycles (c d : CraneNo) (f : Crane → Crane) (hf : ∀ x, (f x).cycles = x.cycles) :
    ((s.mapCrane c f).crane d).cycles = (s.crane d).cycles := by
  rw [State.mapCrane_crane]; split
  · next e => rw [e, hf]
  · rfl

@[simp] theorem State.mapCrane_refStatus (c d : CraneNo) (f : Crane → Crane) (hf : ∀ x, (f x).refStatus = x.refStatus) :
    ((s.mapCrane c f).crane d).refStatus = (s.crane d).refStatus := by
  rw [State.mapCrane_crane]; split
  · next e => rw [e, hf]
  · rfl

@[simp] theorem State.mapAisle_profile (a b : AisleNo) (f : Aisle → Aisle) (hf : ∀ x, (f x).profile = x.profile) :
    ((s.mapAisle a f).aisle b).profile = (s.aisle b).profile := by
  rw [State.mapAisle_aisle]; split
  · next e => rw [e, hf]
  · rfl

@[simp] theorem State.mapAisle_ceiling (a b : AisleNo) (f : Aisle → Aisle) (hf : ∀ x, (f x).ceiling = x.ceiling) :
    ((s.mapAisle a f).aisle b).ceiling = (s.aisle b).ceiling := by
  rw [State.mapAisle_aisle]; split
  · next e => rw [e, hf]
  · rfl

@[simp] theorem State.mapAisle_pendingCopy (a b : AisleNo) (f : Aisle → Aisle) (hf : ∀ x, (f x).pendingCopy = x.pendingCopy) :
    ((s.mapAisle a f).aisle b).pendingCopy = (s.aisle b).pendingCopy := by
  rw [State.mapAisle_aisle]; split
  · next e => rw [e, hf]
  · rfl

@[simp] theorem State.mapAisle_resume (a b : AisleNo) (f : Aisle → Aisle) (hf : ∀ x, (f x).resume = x.resume) :
    ((s.mapAisle a f).aisle b).resume = (s.aisle b).resume := by
  rw [State.mapAisle_aisle]; split
  · next e => rw [e, hf]
  · rfl

@[simp] theorem State.mapStation_infeed (a b : AisleNo) (f : Station → Station) (hf : ∀ x, (f x).infeed = x.infeed) :
    ((s.mapStation a f).station b).infeed = (s.station b).infeed := by
  rw [State.mapStation_station]; split
  · next e => rw [e, hf]
  · rfl

@[simp] theorem State.mapStation_outfeed (a b : AisleNo) (f : Station → Station) (hf : ∀ x, (f x).outfeed = x.outfeed) :
    ((s.mapStation a f).station b).outfeed = (s.station b).outfeed := by
  rw [State.mapStation_station]; split
  · next e => rw [e, hf]
  · rfl

end

/-- What no part of the end of an event changes. -/
structure State.Fixed (s t : State) : Prop where
  now : t.now = s.now
  pending : t.pending = s.pending
  proving : t.proving = s.proving
  groups : t.groups = s.groups
  input : t.hli.input = s.hli.input
  rx : t.hli.rx = s.hli.rx
  replies : t.hli.replies = s.hli.replies
  line : t.hli.line = s.hli.line
  stamp : t.jtb.stamp = s.jtb.stamp
  queues : t.jtb.queues = s.jtb.queues
  clearWait : t.jtb.clearWait = s.jtb.clearWait
  marker : t.rnu.marker = s.rnu.marker
  profile : ∀ a, (t.aisle a).profile = (s.aisle a).profile
  ceiling : ∀ a, (t.aisle a).ceiling = (s.aisle a).ceiling
  copy : ∀ a, (t.aisle a).pendingCopy = (s.aisle a).pendingCopy
  resume : ∀ a, (t.aisle a).resume = (s.aisle a).resume
  infeed : ∀ a, (t.station a).infeed = (s.station a).infeed
  outfeed : ∀ a, (t.station a).outfeed = (s.station a).outfeed
  role : ∀ c, (t.crane c).role = (s.crane c).role
  load : ∀ c, (t.crane c).load = (s.crane c).load
  cycles : ∀ c, (t.crane c).cycles = (s.crane c).cycles
  status : ∀ c, (t.crane c).refStatus = (s.crane c).refStatus

namespace State.Fixed

theorem refl (s : State) : State.Fixed s s := by constructor <;> intros <;> rfl

theorem trans {s t u : State} (h : State.Fixed s t) (k : State.Fixed t u) : State.Fixed s u := by
  cases h; cases k; constructor <;> intros <;> simp only [*]

end State.Fixed

theorem Aisle.stepped_kept (x : Aisle) (st : Stage) : (x.stepped st).profile = x.profile ∧
    (x.stepped st).ceiling = x.ceiling ∧ (x.stepped st).pendingCopy = x.pendingCopy ∧ (x.stepped st).resume = x.resume := by
  cases st <;> exact ⟨rfl, rfl, rfl, rfl⟩

theorem Aisle.adopted_kept (x : Aisle) : x.adopted.profile = x.profile ∧ x.adopted.ceiling = x.ceiling ∧
    x.adopted.pendingCopy = x.pendingCopy ∧ x.adopted.resume = x.resume := ⟨rfl, rfl, rfl, rfl⟩

theorem Crane.closedValues_kept (x : Crane) : x.closedValues.role = x.role ∧ x.closedValues.load = x.load ∧
    x.closedValues.cycles = x.cycles ∧ x.closedValues.refStatus = x.refStatus := ⟨rfl, rfl, rfl, rfl⟩

theorem Work.Settles.fixed {w v : Work} (h : Work.Settles w v) : State.Fixed w.st v.st := by
  cases h with
  | notice h => rw [h]; exact .refl _
  | reference c hc =>
    constructor <;> intros <;> simp only [Work.sendReference] <;> split <;> simp
  | pointers a st =>
    constructor <;> intros <;> simp [Aisle.stepped_kept]
  | cycle c j hc => constructor <;> intros <;> simp [Work.sendCycle]
  | addLoad id => constructor <;> intros <;> simp
  | unload id j hj hs => constructor <;> intros <;> simp
  | ready id j hj hs => constructor <;> intros <;> simp
  | carry c j d hc hp hj hd => constructor <;> intros <;> simp [Work.sendCarry]
  | pend c hc hp => constructor <;> intros <;> simp
  | yields c t hc => constructor <;> intros <;> simp [Work.sendMove]
  | unblock c id hc hl hj => constructor <;> intros <;> simp
  | take id l tag he hu hw => constructor <;> intros <;> simp
  | again c id l hc hl hj => constructor <;> intros <;> simp [Work.sendPlaceAgain]
  | adopt a hm => constructor <;> intros <;> simp [Work.adopt, Aisle.adopted_kept]
  | lead c j hc hj hs => constructor <;> intros <;> simp
  | reserved a id => constructor <;> intros <;> simp
  | hold c hc => constructor <;> intros <;> simp
  | promise k c cl hc ho hk hs => constructor <;> intros <;> simp [Work.promise]
  | opened a ha hd => constructor <;> intros <;> simp
  | offline c ha hc => constructor <;> intros <;> simp [Work.goOffline, Crane.closedValues_kept]
  | closed a ha => constructor <;> intros <;> simp
  | release a u hm hw =>
    constructor <;> intros <;> first
      | rfl
      | exact State.mapStation_infeed _ _ _ (fun x => { x with releasing := true }) (fun _ => rfl)
      | exact State.mapStation_outfeed _ _ _ (fun x => { x with releasing := true }) (fun _ => rfl)
  | runEnd id r hr => constructor <;> intros <;> first | rfl | simp [State.reported]
  | free hf => constructor <;> intros <;> rfl

/-- What the end of an event leaves. -/
theorem Work.settle_fixed (w : Work) : State.Fixed w.st w.settle.st := by
  have h := w.settle_settled
  generalize w.settle = v at h
  induction h with
  | refl => exact .refl _
  | tail _ k ih => exact ih.trans k.fixed

/-- The end of an event keeps the canonical form of the location table. -/
theorem Work.settle_wf (w : Work) (h : w.st.ltb.wf = true) : w.settle.st.ltb.wf = true := by
  refine Work.Settled.keep (P := fun s => s.ltb.wf = true) (fun w v k h => ?_) w.settle_settled h
  cases k with
  | notice e => rw [e]; exact h
  | take id l tag he hu hw => simpa using State.setLoc_wf l _ h
  | reference c hc => simp only [Work.sendReference]; split <;> simpa using h
  | cycle c j hc => simpa [Work.sendCycle] using h
  | carry c j d hc hp hj hd => simpa [Work.sendCarry] using h
  | yields c t hc => simpa [Work.sendMove] using h
  | again c id l hc hl hj => simpa [Work.sendPlaceAgain] using h
  | adopt a hm => simpa [Work.adopt] using h
  | promise k c cl hc ho hk hs => simpa [Work.promise] using h
  | offline c ha hc => simpa [Work.goOffline] using h
  | release a u hm hw => exact h
  | runEnd id r hr => exact h
  | free hf => exact h
  | _ => simpa using h

end Sys2Proof.Machine
end

