-- ==== Sys2Proof/Laws/Requests.lean ====
section
/-! SUPPORT. The taking of requests (R188, R189): what a request that reaches the input buffer does there, and what the taking of
the requests in the buffer can do. -/

namespace Sys2Proof.Machine

/-! ## The buffer -/

/-- R189: the reply to a request that a frame asks for carries that frame's kind byte and tag. -/
theorem HostFrame.asks_reply {f : HostFrame} {c : Instr} (h : f.asks c = true) : ∃ k tag, requestOf c = some (k, tag) ∧
    ∀ r : Reply, r.kind = k → r.tag = tag →
      (OutFrame.reply r).frame.kind = f.kind ∧ (OutFrame.reply r).frame.tag = f.tag := by
  unfold HostFrame.asks at h
  split at h
  · cases h
  · next k tag hk =>
    simp only [Bool.and_eq_true, beq_iff_eq] at h
    refine ⟨k, tag, hk, fun r h1 h2 => ⟨?_, ?_⟩⟩
    · simp only [OutFrame.frame, OutFrame.kindByte, h1, h.1.2]
    · simp only [OutFrame.frame, OutFrame.tag, h2, h.1.1]

theorem nameFrame_length (c : Instr) (xs : List InEntry) : (nameFrame c xs).length = xs.length := by
  induction xs with
  | nil => rfl
  | cons x rest ih => unfold nameFrame; split <;> simp [ih]

/-- R188: the buffer keeps its capacity. -/
theorem enterBuffer_length (c : Instr) (xs : List InEntry) (h : xs.length ≤ Config.inputFrames) :
    (enterBuffer c xs).length ≤ Config.inputFrames := by
  unfold enterBuffer
  split
  · rw [nameFrame_length]; exact h
  · split
    · simp; omega
    · exact h

@[simp] theorem enterBuffer_nil (c : Instr) : enterBuffer c [] = [.request c] := rfl

/-! ## The taking -/

/-- A buffer whose head is not a known request, or a full reply queue, takes none. -/
theorem State.serve_of_none {s : State} (n : Nat) (h : s.takes = none) : s.serve n = s := by
  cases n with
  | zero => rfl
  | succ n => simp [State.serve, h]

/-- What taking the requests of the buffer can do: nothing, or the head request is carried out first. -/
theorem State.serve_cases (n : Nat) (s : State) : s.serve n = s ∨ ∃ k c rest, n = k + 1 ∧
    s.hli.input = .request c :: rest ∧ s.hli.replies.length < Config.replyEntries ∧
    s.serve n = State.serve k ((s.withInput rest).carryOut c) := by
  cases n with
  | zero => exact Or.inl rfl
  | succ n =>
    cases h : s.takes with
    | none => exact Or.inl (State.serve_of_none _ h)
    | some x =>
      obtain ⟨c, rest⟩ := x
      refine Or.inr ⟨n, c, rest, rfl, ?_, ?_, by simp [State.serve, h]⟩ <;>
      · unfold State.takes at h
        split at h
        · split at h
          · cases h; assumption
          · cases h
        · cases h

/-- A property that the carrying out of every request keeps is kept by the taking of the requests of the buffer. -/
theorem State.serve_keeps {P : State → Prop}
    (h : ∀ s c rest, P s → s.hli.input = .request c :: rest → s.hli.replies.length < Config.replyEntries →
      P ((s.withInput rest).carryOut c)) (n : Nat) (s : State) (hs : P s) : P (s.serve n) := by
  induction n generalizing s with
  | zero => exact hs
  | succ n ih =>
    rcases State.serve_cases (n + 1) s with e | ⟨k, c, rest, e, h1, h2, h3⟩
    · rw [e]; exact hs
    · cases e; rw [h3]; exact ih _ (h s c rest hs h1 h2)

/-- R189: a request that may be taken at once is carried out, and nothing else happens. -/
theorem State.receiveRequest_now {s : State} {c : Instr} (h : s.mayTakeRequest = true) :
    s.receiveRequest c = s.carryOut c := by
  simp only [State.mayTakeRequest, Bool.and_eq_true, decide_eq_true_eq, List.isEmpty_iff] at h
  obtain ⟨h1, h2⟩ := h
  have e : (s.withInput [.request c]).takes = some (c, []) := by simp [State.takes, h1]
  have e2 : s.withInput [] = s := by rw [← h2]; rfl
  simp [State.receiveRequest, State.serveAll, State.serve, h2, e, e2]

/-- R189: while the reply queue is full no request is taken, and one that arrives stands in the buffer, when that has room. -/
theorem State.receiveRequest_full {s : State} {c : Instr} (h : Config.replyEntries ≤ s.hli.replies.length) :
    s.receiveRequest c = s.withInput (enterBuffer c s.hli.input) := by
  refine State.serve_of_none _ ?_
  unfold State.takes
  split
  · rw [if_neg (by simpa using h)]
  · rfl

end Sys2Proof.Machine
end

