-- ==== Sys2Proof/WellFormed.lean ====
section
/-! DEFINITION. Which terms of `Instr` are commands a line can carry: every number fits the field that carries it and
every body fits its frame. The widths of SUBMIT-JOB, SUBMIT-RUN, the location address and the frame are those of
section 11.8; the widths of the other fields are PRESUMED (log entry 12). Every meaning is total, also on terms that
this file refuses. -/

namespace Sys2Proof

/-- A number that fits one byte. -/
def fitsByte (n : Nat) : Bool := n < 256
/-- A number that fits two bytes. -/
def fitsTwo (n : Nat) : Bool := n < 65536
/-- A number that fits four bytes. -/
def fitsFour (n : Nat) : Bool := n < 4294967296
/-- A body that a host link frame can carry (R187). -/
def fitsHostBody (b : List Byte) : Bool := b.length ≤ Config.hostBody
/-- A body that a crane link frame can carry (R58). -/
def fitsLineBody (b : List Byte) : Bool := b.length ≤ Config.lineBody

/-- The five bytes of a location address (section 11.8). -/
def RawLoc.wf (l : RawLoc) : Bool :=
  fitsByte l.aisle && fitsByte l.side && fitsByte l.bay && fitsByte l.level && fitsByte l.depth

/-- The queue field of a schedule entry is one byte. -/
def RawQueue.wf : RawQueue → Bool
  | .number n => fitsByte n
  | .empty => true

/-- Every field of a profile fits four bytes. -/
def RawProfile.wf (p : RawProfile) : Bool :=
  [p.bays, p.levels, p.craneCount, p.bayPitch, p.levelPitch, p.vx, p.ax, p.vy, p.ay, p.forkNear, p.forkFar,
   p.separation, p.overrunPercent, p.overrunMargin, p.refInterval, p.driftLimit, p.parkDelay, p.parkFront,
   p.parkRear, p.agingStep, p.infeedCap, p.outfeedCap, p.provingAllowance].all fitsFour

/-- Which commands a line can carry. -/
def Instr.wf : Instr → Bool
  | .hardwareReset => true
  | .stationLinkUp => true
  | .hostFrameReceived _ => true
  | .frameTransmissionEnd => true
  | .unknownKind _ _ => true
  | .submitJob _ body => fitsHostBody body
  | .setUrgency _ req => req.all (fun r => fitsFour r.id && fitsByte r.urgency)
  | .cancelJob _ id => id.all fitsFour
  | .queryJob _ id => id.all fitsFour
  | .submitRun _ body => fitsHostBody body
  | .endRun _ req => req.all (fun r => fitsTwo r.id)
  | .queryRun _ id => id.all fitsTwo
  | .loadLocations _ req => fitsTwo req.count && req.entries.all (fun e => e.loc.wf)
  | .setLocation _ req => req.all (fun r => r.loc.wf)
  | .lockLocation _ l => l.all RawLoc.wf
  | .unlockLocation _ l => l.all RawLoc.wf
  | .queryLocation _ req => req.all (fun r => r.first.wf && fitsTwo r.count)
  | .setProfile _ req => req.all (fun r => fitsByte r.aisle && r.profile.wf)
  | .openAisle _ a => a.all fitsByte
  | .closeAisle _ a => a.all fitsByte
  | .lockoutAisle _ a => a.all fitsByte
  | .releaseAisle _ a => a.all fitsByte
  | .setCeiling _ req => req.all (fun r => fitsByte r.aisle && fitsByte r.value)
  | .editSchedule _ req =>
    req.all (fun r => fitsByte r.aisle && fitsByte r.first && fitsByte r.declared && r.count.all fitsByte &&
      r.entries.all (fun e => e.queue.wf))
  | .commitSchedule _ a => a.all fitsByte
  | .queryAisle _ a => a.all fitsByte
  | .clearCrane _ c => c.all fitsByte
  | .queryCrane _ c => c.all fitsByte
  | .queryStation _ a => a.all fitsByte
  | .openGroup _ req => req.all (fun r => fitsTwo r.id && fitsByte r.count && fitsByte r.window)
  | .groupCancel _ id => id.all fitsTwo
  | .queryGroup _ id => id.all fitsTwo
  | .identify _ body => fitsHostBody body
  | .restart _ body => fitsHostBody body
  | .atSource _ => true
  | .fetchedOk _ _ => true
  | .fetchedEmpty _ => true
  | .atDestination _ => true
  | .placedOk _ => true
  | .placedOccupied _ => true
  | .moved _ => true
  | .referenced _ drift _ _ => fitsTwo drift
  | .stopped _ => true
  | .redirectTaken _ => true
  | .redirectLate _ => true
  | .abortTaken _ bay level => fitsByte bay && fitsByte level
  | .abortLate _ => true
  | .echo _ frame body => fitsTwo frame && fitsLineBody body
  | .craneFault _ code => fitsTwo code
  | .misfitReport _ => true
  | .craneFrameDiscarded _ _ => true
  | .motionDeadlineExpiry _ => true
  | .stopAnswerTimeout _ => true
  | .echoDeadlineExpiry _ => true
  | .agingExpiry id => fitsFour id
  | .parkExpiry _ => true
  | .loadArrived aisle _ _ => fitsByte aisle
  | .loadDeparted aisle => fitsByte aisle
  | .collectorReady => true
  | .stationFrameDiscarded why =>
    match why with
    | .malformed a => a.all fitsByte
    | .badCheck => true
    | .oversize => true
  | .recordFreeNotice => true

end Sys2Proof
end

