-- ==== Sys2Proof/Tests/Slice0.lean ====
section
/-! SUPPORT. The tests of this row: ill-formed terms that WellFormed refuses; the decoder over a table without bits; small
checks whose expected values come from the spec's rules and worked examples; and for each statement of
Certificates/Slice0/Obligations.lean that has hypotheses, concrete states and operands that meet them. -/

namespace Sys2Proof.Tests

open Sys2Proof Sys2Proof.Machine

-- One theorem after another: the kernel evaluates each, and those elaborated side by side would only wait for it.
set_option Elab.async false

/-! ## WellFormed refuses an ill-formed term at each of its checks -/

/-- A location address whose five bytes are given. -/
def raw (a s b l d : Nat) : RawLoc := ⟨a, s, b, l, d⟩

/-- A profile in range (R172), double-deep with two cranes. -/
def rawProf : RawProfile :=
  { bays := 10, levels := 4, doubleDeep := some true, craneCount := 2, bayPitch := 1350, levelPitch := 1600, vx := 3000,
    ax := 500, vy := 1200, ay := 600, forkNear := 9000, forkFar := 14000, separation := 3, overrunPercent := 25,
    overrunMargin := 3000, refInterval := 200, driftLimit := 10, parkDelay := 30, parkFront := 1, parkRear := 10,
    agingStep := 60, infeedCap := 4, outfeedCap := 2, provingAllowance := 1 }

theorem test_wf_accepts : [Instr.submitJob 1 [], .lockLocation 1 (some (raw 255 255 255 255 255)),
    .setProfile 1 (some { aisle := 255, profile := rawProf }), .openAisle 1 none, .echo 0 65535 [],
    .agingExpiry 4294967295].all Instr.wf = true := by decide

theorem test_wf_location_bytes : [raw 256 0 0 0 0, raw 0 256 0 0 0, raw 0 0 256 0 0, raw 0 0 0 256 0, raw 0 0 0 0 256].all
    (fun l => !(Instr.lockLocation 1 (some l)).wf && !(Instr.unlockLocation 1 (some l)).wf &&
      !(Instr.setLocation 1 (some ⟨l, none, 0⟩)).wf && !(Instr.queryLocation 1 (some ⟨l, 1⟩)).wf &&
      !(Instr.loadLocations 1 ⟨1, [⟨l, none, 0, false⟩]⟩).wf) = true := by decide

theorem test_wf_long_bodies : [Instr.submitJob 1 (List.replicate 1025 0), .submitRun 1 (List.replicate 1025 0),
    .identify 1 (List.replicate 1025 0), .restart 1 (List.replicate 1025 0), .echo 0 0 (List.replicate 65 0)].all
    (fun c => !c.wf) = true := by decide +kernel

theorem test_wf_ids : [Instr.setUrgency 1 (some ⟨4294967296, 0⟩), .cancelJob 1 (some 4294967296),
    .queryJob 1 (some 4294967296), .agingExpiry 4294967296, .endRun 1 (some ⟨65536, false⟩), .queryRun 1 (some 65536),
    .openGroup 1 (some ⟨65536, 1, 1⟩), .groupCancel 1 (some 65536), .queryGroup 1 (some 65536)].all
    (fun c => !c.wf) = true := by decide

theorem test_wf_values : [Instr.setUrgency 1 (some ⟨1, 256⟩), .loadLocations 1 ⟨65536, []⟩,
    .queryLocation 1 (some ⟨raw 0 0 1 1 0, 65536⟩), .setCeiling 1 (some ⟨0, 256⟩), .openGroup 1 (some ⟨1, 256, 1⟩),
    .openGroup 1 (some ⟨1, 1, 256⟩), .referenced 0 65536 false 0, .abortTaken 0 256 0, .abortTaken 0 0 256,
    .echo 0 65536 [], .craneFault 0 65536].all (fun c => !c.wf) = true := by decide

theorem test_wf_aisles_and_cranes : [Instr.setProfile 1 (some ⟨256, rawProf⟩), .openAisle 1 (some 256),
    .closeAisle 1 (some 256), .lockoutAisle 1 (some 256), .releaseAisle 1 (some 256), .setCeiling 1 (some ⟨256, 0⟩),
    .commitSchedule 1 (some 256), .queryAisle 1 (some 256), .queryStation 1 (some 256), .clearCrane 1 (some 256),
    .queryCrane 1 (some 256), .loadArrived 256 0 false, .loadDeparted 256,
    .stationFrameDiscarded (.malformed (some 256))].all (fun c => !c.wf) = true := by decide

theorem test_wf_profile_fields : [{ rawProf with bays := 4294967296 }, { rawProf with forkFar := 4294967296 },
    { rawProf with provingAllowance := 4294967296 }].all
    (fun p => !(Instr.setProfile 1 (some ⟨0, p⟩)).wf) = true := by decide

theorem test_wf_schedule : [(⟨256, some .wheel, 0, 0, [], none⟩ : EditReq), ⟨0, some .wheel, 256, 0, [], none⟩,
    ⟨0, some .wheel, 0, 256, [], none⟩, ⟨0, some .wheel, 0, 0, [], some 256⟩,
    ⟨0, some .wheel, 0, 1, [⟨.number 256, none, none⟩], none⟩].all
    (fun r => !(Instr.editSchedule 1 (some r)).wf) = true := by decide

/-! ## The table has no bits -/

/-- No row of the table gives bits, so no word spells a command, and a fetch word changes nothing. -/
theorem test_decode_none (nbits w : Nat) : decodeTableWord nbits w = none := rfl

theorem test_fetch_word_keeps (s : State) (nbits w : Nat) : s.withFetchWord nbits w = s := rfl

/-! ## States for the tests -/

/-- The profile with its clamped values. -/
def prof : Profile := clampProfile rawProf

/-- Location LEFT of aisle 0 at a bay, level 1. -/
def near (b : Nat) : Loc := ⟨0, .left, b, 1, .near⟩
/-- The FAR location behind it. -/
def far (b : Nat) : Loc := ⟨0, .left, b, 1, .far⟩

/-- An IDLE crane at a point. -/
def idleCrane (r : Role) (b : Nat) : Crane :=
  { Crane.reset with role := r, state := .idle, pos := some (b, 0), span := some (b, b), link := .proven,
                     idleSince := some 0 }

/-- Aisle 0 in a state, with two IDLE cranes. -/
def twin (st : AisleState) : State :=
  { State.reset with
    aisles := State.reset.aisles.set 0 { Aisle.reset with state := st, profile := some prof }
    cranes := (State.reset.cranes.set 0 (idleCrane .front 0)).set 1 (idleCrane .rear 11) }

/-- Aisle 0 OPEN. -/
def opened : State := twin .opened

/-- A RETRIEVE from bay 5. -/
def retrieve : Job :=
  { id := 7, kind := .retrieve, aisle := 0, source := .loc (near 5), dest := some .outfeed, expTag := 5, urgency := 4,
    queue := 0, group := none, run := none, parent := none, state := .ready, waits := {}, crane := none, bump := 0,
    stamp := 1, readySince := none, tagRead := none, cancelReq := none, noteOccupied := false, noteLate := false }

/-- A STORE to bay 6, on its crane. -/
def store : Job := { retrieve with kind := .store, source := .infeed, dest := some (.loc (near 6)) }

/-- A state with one more live job, at the tail of its queue. -/
def withJob (s : State) (j : Job) : State :=
  { s with jtb := { s.jtb with jobs := s.jtb.jobs ++ [j], queues := s.jtb.queues.set j.queue (s.jtb.queues[j.queue] ++ [j.id]) } }

/-- A state with location records. -/
def withLocs (s : State) (t : LocTable) : State := { s with ltb := t }

/-- Aisle 0 OPEN, crane 0 in a crane state with a job in a job state. -/
def serving (cs : CraneState) (j : Job) (js : JobState) : State :=
  (withJob opened { j with state := js, crane := some 0 }).mapCrane 0
    (fun x => { x with state := cs, job := some j.id, idleSince := none, motionDeadline := some 9000 })

/-- A state with a frame on its output line. -/
def sending (s : State) : State := { s with hli := { s.hli with line := some (.report 0 (.scheduleAdopted 0)) } }

/-- A line whose queues are empty is fed. -/
theorem fed {s : State} (h : s.hli.replies = []) (k : s.hli.reports = []) : s.lineFed := fun _ => ⟨h, k⟩

/-- A busy host link with an empty input buffer, and its counts within their bounds, is in order. -/
theorem in_order {h : Hli} (k : h.input = [] ∧ h.line.isSome = true ∧ h.replies.length ≤ Config.replyEntries ∧
    h.reports.length ≤ Config.reportEntries ∧ h.lost ≤ Config.maxLost ∧
    (Config.pauseRaise ≤ h.reports.length → h.pause = true) ∧
    (h.pause = true → Config.pauseDrop < h.reports.length)) : h.ok := by
  obtain ⟨hi, hl, h1, h2, h3, h4, h5⟩ := k
  refine ⟨by rw [hi]; decide, h1, h2, h3, fun c hc => ?_, fun hn => ?_, h4, h5⟩
  · rw [hi] at hc; cases hc
  · rw [hn] at hl; cases hl

/-- The next state of a command. -/
def after (c : Instr) (s : State) : State :=
  match exec c s with
  | .next t => t
  | _ => s

/-- The bytes of a SUBMIT-JOB of the test job. -/
def jobBody (id kind queue aisle : Nat) (src dst : RawPlace) (g : Option (Nat × Nat)) : List Byte :=
  JobBody.bytes { id := id, kind := (jobKindOf kind).getD .clearance, aisle := aisle, queue := queue, urgency := 4, tag := 5,
                  source := src, dest := dst, group := g }

/-- A place of a body that is a location of the test aisle. -/
def atBay (b d : Nat) : RawPlace := ⟨0, 0, b, 1, d⟩

/-! ## Small checks, with values from the spec -/

/-- R46 by hand: at 3,000 mm/s and 500 mm/s² the ramp distance is 18,000 mm; 27,000 mm take 27,000 ÷ 3 + 6,000 ms; 4,500 mm
take the root of 4,000,000 × 4,500 ÷ 500 = 36,000,000. -/
theorem test_axis_times : axisTime 0 3000 500 = 0 ∧ axisTime 18000 3000 500 = 12000 ∧ axisTime 27000 3000 500 = 15000 ∧
    axisTime 4500 3000 500 = 6000 ∧ axisTime 4501 3000 500 = 6001 := by decide +kernel

/-- R51 by hand: 10,001 ms with 25 % and 3,000 ms: 12,501.25 is rounded up, then the margin is added. -/
theorem test_motion_limit : motionLimit prof 10001 = 15502 ∧ motionLimit prof 600000 = 753000 := by decide +kernel

/-- R175: the bodies of frames 0 and 1, the ends of the walking one of frame 7, and of the counting frame 63. -/
theorem test_probe_bodies : probeBody 0 = List.replicate 32 0x00 ∧ probeBody 1 = List.replicate 32 0xFF ∧
    (probeBody 2).take 2 = [0x55, 0xAA] ∧ (probeBody 7).take 2 = [0x02, 0x04] ∧ (probeBody 7)[7]? = some 0x01 ∧
    (probeBody 63)[31]? = some 94 := by decide +kernel

/-- R21: the counter turns from 4,294,967,295 to 1. -/
theorem test_stamp_turns : nextStamp 4294967295 = 1 ∧ older 4294967295 1 = true ∧ older 1 4294967295 = false := by
  decide +kernel

/-- The state of the example of section 2.9: aisle 5 has no profile, id 880 is live, and (as here) aisle 0 has one. -/
def refusals : State := withJob opened { retrieve with id := 880 }

/-- Section 2.9: the first check that fails gives the code: queue 16 before id 0, id 0, a live id, no profile, bay 97. -/
theorem test_refusal_order :
    [jobBody 0 2 16 5 (atBay 5 0) ⟨2, 0, 0, 0, 0⟩ none, jobBody 0 2 3 5 (atBay 5 0) ⟨2, 0, 0, 0, 0⟩ none,
     jobBody 880 2 3 5 (atBay 5 0) ⟨2, 0, 0, 0, 0⟩ none, jobBody 881 2 3 5 (atBay 5 0) ⟨2, 0, 0, 0, 0⟩ none,
     jobBody 881 2 3 0 (atBay 97 0) ⟨2, 0, 0, 0, 0⟩ none].map (fun b => errorOf (refusals.checkJob b)) =
    [some .outOfRange, some .outOfRange, some .duplicateId, some .noProfile, some .outOfRange] := by decide +kernel

/-- Section 2.11, steps 1 and 2: CANCEL-JOB of a job in LEAD answers PENDING with ABORT sent, and a second one BUSY. -/
theorem test_cancel_twice :
    ((after (.cancelJob 2 (some 7)) (after (.cancelJob 1 (some 7)) (sending (serving .lead store .lead)))).hli.replies.map
      Reply.result, (after (.cancelJob 1 (some 7)) (serving .lead store .lead)).ordersTo 0) =
    ([.pending, .busy], [.abort]) := by decide +kernel

/-- Section 2.11, steps 3a and 4b. -/
theorem test_cancel_race :
    ((after (.abortTaken 0 0 0) (after (.cancelJob 1 (some 7)) (serving .lead store .lead))).jtb.jobs,
     ((after (.abortLate 0) (after (.atSource 0) (after (.cancelJob 1 (some 7)) (serving .lead store .lead)))).job? 7).map
      (fun j => (j.state, j.cancelReq, j.noteLate))) = ([], some (.fetch, none, true)) := by decide +kernel

/-- R38: between AT-SOURCE and ABORT-LATE a second CANCEL-JOB is BUSY as well; once ABORT-LATE has come it is TOO-LATE. -/
theorem test_cancel_in_fetch :
    (let s := after (.atSource 0) (after (.cancelJob 1 (some 7)) (sending (serving .lead store .lead)))
     (after (.cancelJob 3 (some 7)) (after (.abortLate 0) (after (.cancelJob 2 (some 7)) s))).hli.replies.map Reply.result) =
    [.pending, .busy, .tooLate] := by decide +kernel

/-- R55, R64: a crane that hauls has no standing point. -/
theorem test_haul_without_standing :
    ((after (.fetchedOk 0 5) ((serving .fetch store .fetch).mapCrane 0 (fun x => { x with standing := some .infeed }))).crane
      0).standing = none := by decide +kernel

/-- R151: a load that arrived before the station link came up first is gone when RESYNC is sent. -/
theorem test_link_up_empties :
    let s := after .stationLinkUp (after (.loadArrived 0 9 false) opened)
    ((s.station 0).infeed, s.sent.contains (.station 0 .resync)) = ([], true) := by decide +kernel

/-- Section 2.10, time 60: an aging expiry lowers the urgency 5 to 4 and sets ready-since anew. -/
theorem test_aging :
    ((after (.agingExpiry 7) (withJob opened { retrieve with urgency := 5, readySince := some 0 })).job? 7).map
      (fun j => (j.urgency, j.readySince)) = some (4, some 60000) := by decide +kernel

/-- R195: a hardware reset empties every table, whatever stood before. -/
theorem test_hardware_reset : after .hardwareReset (sending (serving .haul store .haul)) = State.reset := by decide +kernel

/-! ## Witnesses: states and operands that meet the hypotheses of the statements

Each theorem is named after its statement in Certificates/Slice0/Obligations.lean; its clauses stand in the statement's
order, with boundary values where a clause has a range. -/

/-- Aisle 0 OPEN, with two commands waiting. -/
def waiting : State := { opened with pending := [.collectorReady, .recordFreeNotice] }

theorem witness_StepRunsTheFrontCommand :
    waiting.pending = .collectorReady :: [.recordFreeNotice] ∧ opened.pending = [] := ⟨rfl, rfl⟩

/-- A busy line with a report queue at the pause's drop threshold. -/
def atThreshold : State :=
  { sending waiting with
    hli := { (sending waiting).hli with reports := List.replicate 65 (.scheduleAdopted 0), pause := true } }

theorem witness_EveryStepKeepsTheHostLinkInvariant : atThreshold.hli.ok ∧ ∃ t, step atThreshold = .next t :=
  ⟨in_order (by decide +kernel), _, rfl⟩

/-- Aisle 0 OPEN with two location records and a STORE on its way to the second. -/
def placing : State := withLocs (serving .place store .place) [(near 5, { occ := .full 9 }), (near 6, { occ := .inbound 5 7 })]

theorem witness_EveryStepKeepsTheLocationTableForm :
    (placing.withFront (.placedOk 0)).ltb.wf = true ∧ ∃ t, step (placing.withFront (.placedOk 0)) = .next t :=
  ⟨by decide +kernel, _, rfl⟩

theorem witness_EveryStepKeepsTheTablesBounded : (placing.withFront (.placedOk 0)).bounded ∧
    ∃ t, step (placing.withFront (.placedOk 0)) = .next t :=
  ⟨by unfold State.bounded; decide +kernel, _, rfl⟩

theorem prof_legal : prof.legal := by unfold Profile.legal; decide +kernel

/-- A state of the tests has no profile but the test profile. -/
theorem legal_profiles {s : State} (key : ∀ b, (s.aisle b).profile = none ∨ (s.aisle b).profile = some prof) :
    ∀ a p, (s.aisle a).profile = some p → p.legal := by
  intro a p h
  rcases key a with k | k <;> rw [k] at h
  · cases h
  · cases h; exact prof_legal

theorem witness_EveryStepKeepsProfilesAndRoles : waiting.profiled ∧ ∃ t, step waiting = .next t :=
  ⟨⟨legal_profiles (by decide +kernel), by decide +kernel, by decide +kernel⟩, _, rfl⟩

theorem witness_EveryStepKeeps_tags : (waiting.withFront (.clearCrane 1 (some 0))).tagged ∧ State.reset.tagged :=
  ⟨⟨fun _ _ _ h => (List.not_mem_nil h).elim, fun _ _ h => (List.not_mem_nil h).elim⟩,
    ⟨fun _ _ _ h => (List.not_mem_nil h).elim, fun _ _ h => (List.not_mem_nil h).elim⟩⟩

theorem witness_EventsKeepTheConfiguration : requestOf (.placedOk 0) = none ∧ Instr.placedOk 0 ≠ .hardwareReset ∧
    (∀ b, Instr.placedOk 0 ≠ .hostFrameReceived b) ∧ (∃ t, exec (.placedOk 0) placing = .next t) ∧
    placing.ltb.wf = true ∧ (∀ c, Instr.placedOk 0 ≠ .placedOccupied c) :=
  ⟨rfl, nofun, nofun, ⟨_, rfl⟩, by decide +kernel, nofun⟩

/-- An empty input buffer has no request at its head. -/
theorem no_request {s : State} (h : s.hli.input = []) : ∀ c, s.hli.input.head? ≠ some (.request c) := by
  intro c hc
  rw [h] at hc
  cases hc

theorem witness_EventsKeep_transmissionEnd : requestOf .frameTransmissionEnd = none ∧
    (∀ c, atThreshold.hli.input.head? ≠ some (.request c)) ∧
    (∃ t, exec .frameTransmissionEnd atThreshold = .next t) := ⟨rfl, no_request rfl, _, rfl⟩

/-- A frame with the largest body. -/
def longFrame : HostFrame := { kind := 7, tag := 65535, body := List.replicate 1024 255 }

/-- An input buffer with a number of frames. -/
def buffered (n : Nat) : State :=
  { opened with hli := { opened.hli with input := List.replicate n (.read { kind := 1, tag := 1, body := [] }) } }

theorem witness_EveryFrameIsReceived : longFrame.body.length ≤ 1024 ∧ (buffered 3).hli.rx = [] ∧
    (buffered 3).hli.input.length < 4 ∧ (buffered 4).hli.rx = [] ∧ ¬ (buffered 4).hli.input.length < 4 := by
  decide +kernel

/-- A reply. -/
def someReply : Reply := plainReply .setCeiling 3 .done

/-- A busy line with replies and reports waiting. -/
def queued (rs : List Reply) (n : Nat) (lost : Nat) (pause : Bool) : State :=
  { sending opened with
    hli := { (sending opened).hli with
      replies := rs, reports := List.replicate n (.scheduleAdopted 1), lost := lost, pause := pause } }

theorem witness_TransmissionEndStartsTheNextFrame :
    (queued [someReply] 0 0 false).hli.line = some (.report 0 (.scheduleAdopted 0)) ∧
    (queued [someReply] 0 0 false).hli.replies = someReply :: [] ∧
    ((queued [] 1 0 false).hli.line.isSome = true ∧ (queued [] 1 0 false).hli.replies = [] ∧
      (queued [] 1 0 false).hli.reports = .scheduleAdopted 1 :: [] ∧ (queued [] 1 0 false).hli.lost = 0 ∧
      (queued [] 1 0 false).hli.pause = false) ∧
    ((queued [] 66 0 true).hli.line.isSome = true ∧ (queued [] 66 0 true).hli.replies = [] ∧
      (queued [] 66 0 true).hli.reports = .scheduleAdopted 1 :: List.replicate 65 (.scheduleAdopted 1) ∧
      64 < (List.replicate 65 (Report.scheduleAdopted 1)).length ∧ (queued [] 66 0 true).hli.lost = 0) ∧
    ((queued [] 0 0 false).hli.line.isSome = true ∧ (queued [] 0 0 false).hli.replies = [] ∧
      (queued [] 0 0 false).hli.reports = []) := by decide +kernel

/-- The third clause of the statement above at the pause's end: no aisle is OPEN. -/
theorem witness_TransmissionEnd_pauseEnds : (∀ a, ((twin .closed).aisle a).state ≠ .opened) := by decide +kernel

/-- The premise of the first three clauses of the statement above. -/
theorem witness_TransmissionEnd_noRequest :
    ∀ c, (queued [someReply] 0 0 false).hli.input.head? ≠ some (.request c) := no_request rfl

/-- A full reply queue, before which a request waits. -/
def heldBack : State := (queued (List.replicate 32 someReply) 0 0 false).withInput [.request (.identify 5 [])]

theorem witness_TransmissionEnd_waitingRequest : (requestOf (.identify 5 [])).isSome = true ∧
    heldBack.hli.line.isSome = true ∧ heldBack.hli.replies = someReply :: List.replicate 31 someReply ∧
    (List.replicate 31 someReply).length < 32 ∧ heldBack.hli.input = [.request (.identify 5 [])] := by decide +kernel

theorem witness_ReportsAreCountedAndCoalesced :
    256 ≤ (queued [] 256 65535 true).hli.reports.length ∧
    (∀ x, Report.loadArrived 0 1 false ≠ .craneState x) ∧
    (∀ a st k, Report.loadArrived 0 1 false ≠ .aisleState a st k) ∧
    ((queued [] 66 9 true).hli.line.isSome = true ∧ (queued [] 66 9 true).hli.replies = [] ∧
      (queued [] 66 9 true).hli.reports = .scheduleAdopted 1 :: List.replicate 65 (.scheduleAdopted 1) ∧
      0 < (queued [] 66 9 true).hli.lost) ∧
    (64 < (List.replicate 255 (Report.scheduleAdopted 1)).length ∧
      (List.replicate 255 (Report.scheduleAdopted 1)).length < 256) :=
  ⟨by decide +kernel, nofun, nofun, by decide +kernel, by decide +kernel⟩

/-- An unsent CRANE-STATE. -/
def craneWord : CraneReport :=
  { crane := 3, state := .idle, link := .proven, fault := none, drift := none, noAnswer := true, unmatched := false }

theorem witness_Coalesced : [Report.scheduleAdopted 0, .craneState craneWord].any (Report.isCraneState 3) = true ∧
    [Report.scheduleAdopted 0, .craneState craneWord][0]? = some (.scheduleAdopted 0) ∧
    (Report.scheduleAdopted 0).isCraneState 3 = false ∧
    [Report.scheduleAdopted 0, .craneState craneWord][1]? = some (.craneState craneWord) ∧ craneWord.crane = 3 := by
  decide

theorem witness_Coalesced_aisleState :
    let rs : List Report := [.scheduleAdopted 0, .aisleState 2 .starting none]
    rs.any (Report.isAisleState 2) = true ∧ rs[0]? = some (.scheduleAdopted 0) ∧
      (Report.scheduleAdopted 0).isAisleState 2 = false ∧ rs[1]? = some (.aisleState 2 .starting none) := by decide

/-- A frame of a kind, tag 5 and no body. -/
def askFrame (k : ReplyKind) : HostFrame := { kind := k.number, tag := 5, body := [] }

theorem askFrame_asks : (askFrame (.request .identify)).asks (.identify 5 []) = true ∧
    (askFrame (.request .restart)).asks (.restart 5 []) = true ∧
    (askFrame (.other 200)).asks (.unknownKind 200 5) = true := by
  simp [askFrame, HostFrame.asks, requestOf]

theorem witness_EveryRequestGetsOneReply :
    (let s := queued (List.replicate 31 someReply) 0 0 false
     s.hli.replies.length < 32 ∧ s.hli.input = [] ∧ requestOf (.identify 5 []) = some (.request .identify, 5) ∧
       requestOf (.unknownKind 200 5) = some (.other 200, 5)) ∧
    (∀ x : ReplyKind × Instr, x = (.request .identify, .identify 5 []) ∨ x = (.other 200, .unknownKind 200 5) →
      let s := opened.withInput [.read (askFrame x.1), .read longFrame]
      requestOf x.2 = some (x.1, 5) ∧ s.hli.replies.length < 32 ∧
        s.hli.input = .read (askFrame x.1) :: [.read longFrame] ∧ (askFrame x.1).asks x.2 = true ∧
        ∀ d, [InEntry.read longFrame].head? ≠ some (.request d)) := by
  refine ⟨by decide +kernel, ?_⟩
  rintro x (rfl | rfl)
  · exact ⟨rfl, (by decide : 0 < 32), rfl, askFrame_asks.1, nofun⟩
  · exact ⟨rfl, (by decide : 0 < 32), rfl, askFrame_asks.2.2, nofun⟩

/-- R189: an unknown kind is answered in a frame of that kind and its tag, refused UNKNOWN-KIND. -/
theorem test_unknown_kind_frame :
    (after (.unknownKind 200 5) opened).hli.line.map (fun x => (x.frame.kind, x.frame.tag)) = some (200, 5) := by
  decide +kernel

theorem witness_RefusedRequestsChangeNothing :
    (requestOf (.openAisle 5 (some 8)) = some (.request .openAisle, 5) ∧
      refusalOf opened (.openAisle 5 (some 8)) = some .outOfRange ∧ opened.mayTakeRequest = true ∧
      opened.lineFed) ∧
    (requestOf (.openAisle 5 (some 0))).isSome = true ∧
    32 ≤ (queued (List.replicate 32 someReply) 0 0 false).hli.replies.length :=
  ⟨⟨rfl, by decide +kernel, by decide +kernel, fed rfl rfl⟩, rfl, by decide +kernel⟩

theorem witness_RefusedRequests_buffered :
    (let f := askFrame (.request .identify)
     let s := opened.withInput [.read f]
     s.hli.input = .read f :: [] ∧ f.asks (.identify 5 []) = true ∧ s.hli.replies.length < 32) ∧
    (∀ n, n = 3 ∨ n = 4 →
      let s := (queued (List.replicate 32 someReply) 0 0 false).withInput (buffered n).hli.input
      32 ≤ s.hli.replies.length ∧ (∀ x ∈ s.hli.input, x.asks (.identify 5 []) = false) ∧ s.hli.input.length = n) := by
  refine ⟨⟨rfl, askFrame_asks.1, by decide +kernel⟩, fun n h => ?_⟩
  rcases h with rfl | rfl <;> decide +kernel

/-- A live run. -/
def someRun : Run :=
  { id := 65535, kind := .store, aisle := 0, pointer := some (near 1), step := .bay, lane := false, count := 3,
    toSpawn := 2, live := 1, window := 1, urgency := 3, queue := 1, group := none, stopOnFailure := false,
    cause := none, completed := 0, failed := 0, skipped := 0 }

/-- A group of two positions. -/
def someGroup : Group := { id := 4, count := 2, window := 1, next := 1, positions := [.free, .void] }

/-- A state with a job, a run and a group. -/
def full : State :=
  { withJob opened retrieve with rnu := { runs := [someRun], marker := none }, groups := [someGroup] }

theorem witness_QueriesAnswerAndChangeNothing : full.mayTakeRequest = true ∧ full.lineFed ∧
    ((7 : Nat) ≠ 0 ∧ full.job? 7 = some retrieve) ∧ ((65535 : Nat) ≠ 0 ∧ full.run? 65535 = some someRun) ∧
    (1 ≤ (1 : Nat) ∧ (64 : Nat) ≤ 64 ∧ full.checkLoc (raw 0 1 10 4 1) = .ok ⟨0, .right, 10, 4, .far⟩) ∧
    ((4 : Nat) ≠ 0 ∧ full.group? 4 = some someGroup) :=
  ⟨by decide +kernel, fed rfl rfl, ⟨by decide, by decide +kernel⟩, ⟨by decide, by decide +kernel⟩,
    ⟨by decide, by decide, by rfl⟩, ⟨by decide, by decide +kernel⟩⟩

theorem witness_RestartGivesTheRestartValues : placing.mayTakeRequest = true ∧ placing.ltb.wf = true ∧
    (placing.crane 0).role ≠ .absent ∧ (placing.crane 2).role = .absent := by decide +kernel

theorem witness_Restart_buffered :
    let f := askFrame (.request .restart)
    let s := placing.withInput [.read f, .read longFrame]
    s.hli.replies.length < 32 ∧ s.hli.input = .read f :: [.read longFrame] ∧ f.asks (.restart 5 []) = true ∧
      ∀ d, [InEntry.read longFrame].head? ≠ some (.request d) :=
  ⟨by decide +kernel, rfl, askFrame_asks.2.1, fun d h => by cases h⟩

/-- Bodies at the ends of their fields' ranges. -/
def bigJob : JobBody :=
  { id := 4294967295, kind := .retrieve, aisle := 255, queue := 255, urgency := 255, tag := 0xFFFFFFFF,
    source := ⟨0, 255, 255, 255, 255⟩, dest := ⟨2, 255, 255, 255, 255⟩, group := some (65535, 255) }

/-- A run's body at the ends of its fields' ranges. -/
def bigRun : RunBody :=
  { id := 65535, kind := .retrieve, aisle := 255, side := 255, bay := 255, level := 255, depth := 255, step := .level,
    lane := true, stopOnFailure := true, count := 255, window := 255, urgency := 255, queue := 255,
    group := some (65535, 255) }

theorem witness_RequestBodiesReadBack :
    (bigJob.kind ≠ .clearance ∧ bigJob.id < 4294967296 ∧ bigJob.aisle < 256 ∧ bigJob.queue < 256 ∧ bigJob.urgency < 256 ∧
      (bigJob.source.side < 256 ∧ bigJob.source.bay < 256 ∧ bigJob.source.level < 256 ∧ bigJob.source.depth < 256) ∧
      (bigJob.dest.side < 256 ∧ bigJob.dest.bay < 256 ∧ bigJob.dest.level < 256 ∧ bigJob.dest.depth < 256) ∧
      (bigJob.source.type, bigJob.dest.type) = placeTypes bigJob.kind ∧ (bigJob.kind ≠ .retrieve → bigJob.group = none)) ∧
    (bigRun.id < 65536 ∧ bigRun.aisle < 256 ∧ bigRun.side < 256 ∧ bigRun.bay < 256 ∧ bigRun.level < 256 ∧
      bigRun.depth < 256 ∧ bigRun.count < 256 ∧ bigRun.window < 256 ∧ bigRun.urgency < 256 ∧ bigRun.queue < 256 ∧
      (bigRun.kind ≠ .retrieve → bigRun.group = none)) ∧
    (∀ g k, bigJob.group = some (g, k) → g < 65536 ∧ k < 256) ∧ (∀ g k, bigRun.group = some (g, k) → g < 65536 ∧ k < 256) := by
  refine ⟨by decide +kernel, by decide +kernel, fun g k h => ?_, fun g k h => ?_⟩ <;>
  · simp only [bigJob, bigRun, Option.some.injEq, Prod.mk.injEq] at h
    obtain ⟨rfl, rfl⟩ := h
    decide

/-- The fields of a body that check 1 admits, with an id, a queue and an aisle. -/
def body (id queue aisle : Nat) : JobBody :=
  { id := id, kind := .store, aisle := aisle, queue := queue, urgency := 9, tag := 5, source := ⟨1, 0, 0, 0, 0⟩,
    dest := atBay 6 0, group := none }

theorem witness_SubmitJobChecksStandInOrder :
    parseJob [] = none ∧
    (parseJob (body 1 16 0).bytes = some (body 1 16 0) ∧ 16 ≤ (body 1 16 0).queue) ∧
    (parseJob (body 0 15 0).bytes = some (body 0 15 0) ∧ (body 0 15 0).id = 0) ∧
    (parseJob (body 2147483648 15 0).bytes = some (body 2147483648 15 0) ∧ 2147483648 ≤ (body 2147483648 15 0).id) ∧
    ((withJob opened { retrieve with id := 2147483647 }).job? 2147483647).isSome = true ∧
    (opened.job? 1 = none ∧ 8 ≤ (body 1 0 8).aisle ∧ parseJob (body 1 0 8).bytes = some (body 1 0 8)) ∧
    ((body 1 0 7).aisle = (7 : AisleNo).val ∧ (opened.aisle 7).profile = none) := by decide +kernel

/-- Aisle 0 with locations of every kind, and a group. -/
def checking : State :=
  { withLocs opened [(near 1, { occ := .full 5 }), (near 5, { occ := .full 6 }), (near 6, { occ := .empty }),
      (near 8, { occ := .full 5 })] with groups := [someGroup] }

/-- A body of a RETRIEVE with a position. -/
def takeOut (b k : Nat) : JobBody :=
  { body 2147483647 15 0 with kind := .retrieve, source := atBay b 0, dest := ⟨2, 0, 0, 0, 0⟩, group := some (4, k) }

/-- Checks 5 to 10, at the ends of their ranges: bay 11 of 10 bays; a table of 1,024 jobs; a STORE to bay 2 and a RETRIEVE from
bay 9 under the separation 3; a destination that is FULL; tag 5 against 6; a position that is VOID; an accepted body. -/
theorem witness_SubmitJobChecks_later :
    ((checking.aisle 0).profile = some prof ∧ prof.bays = 10 ∧ prof.separation = 3 ∧ prof.craneCount = 2 ∧
      checking.job? 2147483647 = none ∧ checking.jtb.jobs.length < 1024) ∧
    (let s : State := { checking with jtb := { checking.jtb with jobs := List.replicate 1024 retrieve } }
     s.job? 2147483647 = none ∧ 1024 ≤ s.jtb.jobs.length ∧
       errorOf (s.checkJob (body 2147483647 15 0).bytes) = some .tableFull) ∧
    (checking.loc (near 5)).occ = .full 6 ∧ (checking.loc (near 6)).occ = .empty ∧ (checking.loc (near 8)).occ = .full 5 ∧
    [{ body 2147483647 15 0 with dest := atBay 11 0 }, { body 2147483647 15 0 with dest := atBay 2 0 }, takeOut 9 1,
      { body 2147483647 15 0 with dest := atBay 5 0 }, takeOut 5 1, takeOut 8 2, takeOut 8 1,
      body 2147483647 15 0].map (fun b => (parseJob b.bytes == some b, errorOf (checking.checkJob b.bytes))) =
    [(true, some .outOfRange), (true, some .unreachable), (true, some .unreachable), (true, some .locationConflict),
     (true, some .tagConflict), (true, some .groupConflict), (true, none), (true, none)] := by decide +kernel

/-- Aisle 0 OPEN with an EMPTY location at bay 6 and a FULL one at bay 5. -/
def stocked : State := withLocs opened [(near 5, { occ := .full 5 }), (near 6, { occ := .empty })]

/-- Whether the checks accept a body. -/
def admits {α : Type} (x : Except Result α) : Bool := (errorOf x).isNone

theorem admitted {α : Type} {x : Except Result α} (h : admits x = true) : ∃ y, x = .ok y := by
  cases x with
  | error e => cases h
  | ok y => exact ⟨y, rfl⟩

/-- The body of a RETRIEVE of bay 5. -/
def retrieveBody : List Byte := jobBody 7 2 0 0 (atBay 5 0) ⟨2, 0, 0, 0, 0⟩ none

theorem witness_SubmitJobAdmits : stocked.mayTakeRequest = true ∧ stocked.ltb.wf = true ∧
    (∃ j d, stocked.checkJob (body 2147483647 15 0).bytes = .ok (j, d)) ∧
    (∃ j d, stocked.checkJob retrieveBody = .ok (j, d)) ∧ (stocked.loc (near 5)).occ = .full 5 := by
  refine ⟨by decide +kernel, by decide +kernel, ?_, ?_, by decide +kernel⟩
  · obtain ⟨⟨j, d⟩, h⟩ := admitted (x := stocked.checkJob (body 2147483647 15 0).bytes) (by decide +kernel)
    exact ⟨j, d, h⟩
  · obtain ⟨⟨j, d⟩, h⟩ := admitted (x := stocked.checkJob retrieveBody) (by decide +kernel)
    exact ⟨j, d, h⟩

/-- A CLOSED aisle 0 with a number of other jobs, a FULL location before another, and a group. -/
def shut (n : Nat) : State :=
  { withLocs (twin .closed) [(near 5, { occ := .full 9 }), (far 5, { occ := .full 5 }), (near 6, { occ := .empty })] with
    jtb := { (twin .closed).jtb with jobs := List.replicate n { store with id := 9 } },
    groups := [someGroup] }

/-- A RETRIEVE behind a FULL location, in an aisle that is not OPEN, with 1,022 and with 1,023 other jobs. -/
theorem witness_SubmitJobAdmits_waits : ∀ n, n = 1022 ∨ n = 1023 →
    (shut n).mayTakeRequest = true ∧ (shut n).ltb.wf = true ∧ ((shut n).aisle 0).state ≠ .opened ∧
    ((shut n).prof 0).doubleDeep = true ∧ (far 5).depth = .far ∧ ((shut n).loc (far 5).partner).occ = .full 9 ∧
    (shut n).jtb.jobs.length = n ∧ (∀ y ∈ (shut n).jtb.jobs, y.parent ≠ some 7) ∧ 7 ∉ (shut n).jtb.clearWait ∧
    ∃ j d b, (shut n).checkJob (jobBody 7 2 0 0 (atBay 5 1) ⟨2, 0, 0, 0, 0⟩ (some (4, 1))) = .ok (j, d) ∧
      parseJob (jobBody 7 2 0 0 (atBay 5 1) ⟨2, 0, 0, 0, 0⟩ (some (4, 1))) = some b := by
  intro n h
  obtain ⟨⟨j, d⟩, k⟩ : ∃ y, (shut n).checkJob (jobBody 7 2 0 0 (atBay 5 1) ⟨2, 0, 0, 0, 0⟩ (some (4, 1))) = .ok y :=
    admitted (by rcases h with rfl | rfl <;> decide +kernel)
  refine ⟨?_, ?_, ?_, ?_, ?_, ?_, ?_, ?_, ?_, j, d, _, k, rfl⟩ <;> rcases h with rfl | rfl <;> decide +kernel

/-- Aisle 0 OPEN with one live job. -/
def withReady (j : Job) : State := withJob opened j

theorem witness_SetUrgencyWritesTheClampedValue : (withReady { retrieve with id := 2147483647 }).mayTakeRequest = true ∧
    1 ≤ (2147483647 : Nat) ∧
    (withReady { retrieve with id := 2147483647 }).job? 2147483647 = some { retrieve with id := 2147483647 } ∧
    retrieve.state = .ready := by decide +kernel

theorem witness_CancelJobByState :
    (opened.mayTakeRequest = true ∧ opened.lineFed ∧ 2147483648 ≤ opened.jtb.internalId) ∧
    ((withReady retrieve).job? 7 = some retrieve ∧ retrieve.state = .ready) ∧
    ((serving .faulted store (.stranded .haul)).job? 7).map Job.state = some (.stranded .haul) ∧
    (((serving .hold store .lead).job? 7).map (fun j => (j.state, j.crane)) = some (.lead, some 0) ∧
      ((serving .hold store .lead).crane 0).state = .hold) ∧
    (((serving .lead store .lead).job? 7).map (fun j => (j.state, j.crane)) = some (.lead, some 0) ∧
      ((serving .lead store .lead).crane 0).state ≠ .hold ∧ ((serving .lead store .lead).crane 0).order = .none) ∧
    (((serving .lead store .lead).mapCrane 0 (fun x => { x with order := .abort })).crane 0).order ≠ .none ∧
    ((withReady { retrieve with state := .promised, crane := some 0 }).job? 7).map Job.state = some .promised ∧
    ((serving .haul store .haul).job? 7).map Job.state = some .haul :=
  ⟨⟨by decide +kernel, fed rfl rfl, by decide +kernel⟩, by decide +kernel, by decide +kernel, by decide +kernel,
    by decide +kernel, by decide +kernel, by decide +kernel, by decide +kernel⟩

theorem witness_CancelJob_outstandingAbort :
    (let s := (serving .fetch retrieve .fetch).mapCrane 0 (fun x => { x with order := .abort })
     (s.job? 7).map (fun j => (j.state, j.crane)) = some (.fetch, some 0) ∧ (s.crane 0).order = .abort) ∧
    (let s := serving .fetch retrieve .fetch
     (s.job? 7).map (fun j => (j.state, j.crane)) = some (.fetch, some 0) ∧ (s.crane 0).order ≠ .abort) ∧
    (let s := withLocs (serving .faulted store (.stranded .place)) [(near 6, { occ := .inbound 5 7 })]
     s.ltb.wf = true ∧ near 6 ∈ store.locs ∧ (s.loc (near 6)).occ.holder = some 7) ∧
    (let s := withLocs (withJob opened retrieve) [(near 5, { occ := .outbound 5 7 })]
     s.ltb.wf = true ∧ near 5 ∈ retrieve.locs ∧ (s.loc (near 5)).occ = .outbound 5 7) := by decide +kernel

theorem witness_AgingLowersTheUrgency :
    (withReady { retrieve with urgency := 2, readySince := some 0 }).job? 7 = some { retrieve with urgency := 2, readySince := some 0 } ∧
    (withReady { retrieve with urgency := 6, readySince := some 0 }).job? 7 = some { retrieve with urgency := 6, readySince := some 0 } ∧
    ((withReady retrieve).prof 0).agingStep ≠ 0 ∧
    (withReady { retrieve with urgency := 1 }).job? 7 = some { retrieve with urgency := 1 } ∧
    (withReady { retrieve with urgency := 7 }).job? 7 = some { retrieve with urgency := 7 } := by decide +kernel

theorem witness_StampsAreOrderedByAge :
    ((0 : Nat) < 4294967296 ∧ (4294967295 : Nat) < 4294967296 ∧ (0 : Nat) ≠ 4294967295 ∧ (0 : Nat) + 2147483648 ≠ 4294967295 ∧
      (4294967295 : Nat) + 2147483648 ≠ 0) ∧
    ((2147483647 : Nat) < 4294967296 ∧ (4294967295 : Nat) = 2147483647 + 2147483648 ∧ (4294967295 : Nat) < 4294967296) ∧
    (1 ≤ (4294967295 : Nat) ∧ (4294967295 : Nat) ≤ 4294967295) := by decide

theorem witness_AxisTimesRoundUpOnce :
    (200 ≤ (200 : Nat) ∧ (200 : Nat) ≤ 6000 ∧ 100 ≤ (2000 : Nat) ∧ (2000 : Nat) ≤ 2000 ∧ 200 * 200 / 2000 ≤ 20) ∧
    (1 ≤ (19 : Nat) ∧ 19 < 200 * 200 / 2000) ∧ (2000 ∣ 200 * 200) ∧
    (1 ≤ (388000 : Nat) ∧ 6000 * 6000 / 100 ≤ 388000 ∧ (388000 : Nat) ≤ 388000 ∧ 500 ≤ (6000 : Nat)) := by decide

theorem witness_HandlingTimesFollowThePlace : prof = clampProfile rawProf ∧ (near 5).depth = .near ∧ (far 5).depth = .far ∧
    (near 5).depth = (near 6).depth := ⟨rfl, rfl, rfl, rfl⟩

theorem witness_LockAndUnlockWriteOneFlag : stocked.mayTakeRequest = true ∧ stocked.ltb.wf = true ∧
    stocked.checkLoc (raw 0 0 5 1 0) = .ok (near 5) ∧ near 6 ≠ near 5 :=
  ⟨by decide +kernel, by decide +kernel, by rfl, by decide⟩

/-- A locked location without a holder. -/
def locked : State := withLocs (twin .closed) [(near 5, { occ := .unknown, locked := true })]

/-- A locked NEAR location before a FAR one that is OUTBOUND under a READY job. -/
def lockedNear : State :=
  withLocs (withJob (twin .closed) { retrieve with source := .loc (far 5) })
    [(near 5, { occ := .unknown, locked := true }), (far 5, { occ := .outbound 5 7 })]

theorem witness_HostWritesReachTheTable :
    (locked.mayTakeRequest = true ∧ locked.ltb.wf = true ∧ locked.checkLoc (raw 0 0 5 1 0) = .ok (near 5) ∧
      (locked.loc (near 5)).locked = true ∧ (locked.loc (near 5)).occ.holder = none ∧
      (locked.loc (near 5).partner).occ = .unknown) ∧
    (lockedNear.ltb.wf = true ∧ lockedNear.checkLoc (raw 0 0 5 1 0) = .ok (near 5) ∧
      (lockedNear.loc (near 5).partner).occ = .outbound 5 7 ∧ (lockedNear.job? 7).map Job.state = some .ready) ∧
    (locked.lineFed ∧ locked.jtb.jobs = [] ∧
      ∃ xs, locked.checkLoad { count := 1, entries := [⟨raw 0 1 10 4 1, some .full, 8, true⟩] } = .ok xs) :=
  ⟨⟨by decide +kernel, by decide +kernel, by rfl, by decide +kernel, by decide +kernel, by decide +kernel⟩,
    ⟨by decide +kernel, by rfl, by decide +kernel, by decide +kernel⟩, ⟨fed rfl rfl, rfl, admitted (by decide +kernel)⟩⟩

theorem witness_SetProfileWritesTheProfile : (twin .closed).mayTakeRequest = true ∧ (twin .closed).lineFed ∧
    (∃ x, (twin .closed).checkProfile (some ⟨0, rawProf⟩) = .ok x) ∧
    (∃ x, (twin .closed).checkProfile (some ⟨7, rawProf⟩) = .ok x) ∧
    (∃ x, (twin .closed).checkProfile (some ⟨0, { rawProf with bays := 8 , parkRear := 8 }⟩) = .ok x) :=
  ⟨by decide +kernel, fed rfl rfl, admitted (by decide +kernel), admitted (by decide +kernel), admitted (by decide +kernel)⟩

theorem witness_OpenAisleStartsProving : (twin .closed).mayTakeRequest = true ∧
    ((twin .closed).aisle 0).profile = some prof ∧ ((twin .closed).aisle 0).state = .closed ∧
    ((twin .closed).crane 1).role ≠ .absent ∧ ((twin .closed).crane 1).stopDeadline = none := by decide +kernel

theorem witness_CloseAisleClosesWhenTheCranesRest : (opened.aisle 0).state = .opened ∧ opened.mayTakeRequest = true ∧
    (∀ c, aisleOf c = 0 → (opened.crane c).role ≠ .absent → (opened.crane c).state = .idle) ∧
    (((serving .haul store .haul).aisle 0).state = .opened ∧ ((serving .haul store .haul).crane 0).state ≠ .idle ∧
      ((serving .haul store .haul).crane 0).state ≠ .faulted) := by decide +kernel

theorem witness_LockoutStopsTheCranes :
    (opened.mayTakeRequest = true ∧ (opened.aisle 0).state ≠ .closed ∧ (opened.aisle 0).state ≠ .lockout ∧
      (opened.crane 1).state ≠ .offline) ∧
    (let s := after (.openAisle 1 (some 0)) ((twin .closed).mapCrane 0 (fun x => { x with state := .offline }))
     (s.aisle 0).state = .starting ∧ (s.aisle 0).start.isSome = true ∧ (s.crane 0).state = .offline ∧
       (s.crane 0).role ≠ .absent) := by decide +kernel

/-- A state with a number of reports waiting behind a busy line. -/
def reporting (n : Nat) (s : State) : State :=
  { s with hli := { s.hli with line := some (.reply someReply), reports := List.replicate n (.scheduleAdopted 1),
                               pause := decide (64 < n) } }

theorem witness_Lockout_jobs :
    (let s := serving .haul retrieve .haul
     s.craneJob? 0 = some { retrieve with state := .haul, crane := some 0 } ∧ (∀ e, e ≠ 0 → (s.crane e).job ≠ some 7) ∧
       (∀ e, (s.crane e).promised ≠ some 7) ∧ (Phase.haul, JobState.haul) ∈
         [(Phase.fetch, JobState.fetch), (.haul, .haul), (.place, .place)]) ∧
    (let s := serving .lead retrieve .lead
     s.craneJob? 0 = some { retrieve with state := .lead, crane := some 0 } ∧ retrieve.cancelReq = none) ∧
    (∀ b ∈ [CancelBy.host, .groupCancelled],
     let s := reporting 200 (serving .lead { retrieve with id := 2147483647, cancelReq := some b } .lead)
     (s.craneJob? 0).map (fun j => (j.state, j.cancelReq, j.id)) = some (.lead, some b, 2147483647) ∧
       2147483648 ≤ s.jtb.internalId ∧ (s.crane 0).job = some 2147483647 ∧ s.hli.reports.length ≤ 200) ∧
    (∀ ph ∈ [Phase.fetch, .haul, .place],
     let s := serving .faulted retrieve (.stranded ph)
     s.craneJob? 0 = some { retrieve with state := .stranded ph, crane := some 0 } ∧ (s.crane 0).state ≠ .offline ∧
       (s.aisle 0).state = .opened ∧ (∀ e, e ≠ 0 → (s.crane e).job ≠ some 7)) ∧
    (let k : Job := { retrieve with id := 8, state := .promised, crane := some 0 }
     let s := (withJob (serving .lead retrieve .lead) k).mapCrane 0 (fun x => { x with order := .redirect, promised := some 8 })
     (s.crane 0).promised = some k.id ∧ s.job? k.id = some k ∧ k.aisle = 0 ∧ ∀ e, (s.crane e).job ≠ some k.id) := by
  decide +kernel

theorem witness_ReleaseRestartsTheAisle :
    (let s := after (.lockoutAisle 1 (some 0)) opened
     s.mayTakeRequest = true ∧ (s.aisle 0).state = .lockout ∧ (s.aisle 0).resume = some .release ∧
       ((s.mapCrane 0 (fun x => { x with stopDeadline := none })).crane 0).stopDeadline = none) ∧
    (let s := after (.lockoutAisle 2 (some 0)) (after (.openAisle 1 (some 0)) (twin .closed))
     (s.aisle 0).state = .lockout ∧ (s.aisle 0).resume = some .full) := by decide +kernel

/-- An edit at the end of the first rotation list. -/
def someEdit : EditReq :=
  { aisle := 0, list := some .firstRotation, first := 14, declared := 2,
    entries := [⟨.number 15, some .any, some .either⟩, ⟨.empty, some .storeOnly, some .rear⟩], count := some 99 }

theorem witness_CeilingAndScheduleAreWritten :
    (opened.mayTakeRequest = true ∧ opened.lineFed) ∧ (opened.aisle 0).active.wheel.count = 0 ∧
    (let s := opened.mapAisle 0 (fun x => { x with active := { x.active with wheel := { x.active.wheel with count := 1 } } })
     (s.aisle 0).state = .opened ∧ 0 < (s.aisle 0).active.wheel.count) ∧
    (∃ x, checkEdit (some someEdit) = .ok x) ∧ (15 : Nat) < 16 :=
  ⟨⟨by decide +kernel, fed rfl rfl⟩, by decide +kernel, by decide +kernel, admitted (by decide +kernel), by decide⟩

/-- Crane 0 of an OPEN aisle changed. -/
def crane0 (f : Crane → Crane) : State := opened.mapCrane 0 f

theorem witness_ClearCraneSendsReference :
    (∀ q ∈ [none, some (5, 2)],
      let s := reporting 240 (crane0 (fun x => { x with state := .faulted, pos := q, span := some (3, 7) }))
      s.mayTakeRequest = true ∧ (s.crane 0).state = .faulted ∧ (s.crane 0).stopDeadline = none ∧ (s.crane 0).pos = q ∧
        (s.crane 0).span = some (3, 7) ∧ s.hli.reports.length ≤ 240) ∧
    (let s := opened.mapCrane 1 (fun x => { x with state := .faulted })
     (s.crane 1).state = .faulted ∧ (s.crane 1).role = .rear ∧ (s.crane 1).pos = some (11, 0) ∧
       (s.crane 1).span = some (11, 11)) := by decide +kernel

/-- The job that crane 0 serves in a state of `serving`. -/
def servedJob (j : Job) (js : JobState) : Job := { j with state := js, crane := some 0 }

theorem witness_TravelReportsAdvanceTheCycle :
    (∀ cs, cs = .lead ∨ cs = .haul → ((serving cs store .lead).crane 0).role ≠ .absent ∧
      (serving cs store .lead).craneJob? 0 = some (servedJob store .lead) ∧ ((serving cs store .lead).crane 0).state = cs ∧
      (∀ e, e ≠ 0 → ((serving cs store .lead).crane e).job ≠ some 7)) ∧
    (servedJob store .lead).dest = some (.loc (near 6)) ∧
    (let s := (serving .place store .place).mapCrane 0 (fun x => { x with leg := some .travelling })
     s.craneJob? 0 = some (servedJob store .place) ∧ (s.crane 0).state = .place ∧ (s.crane 0).leg = some .travelling ∧
       s.hli.replies = [] ∧ s.hli.reports = []) := by
  refine ⟨fun cs h => ?_, rfl, by decide +kernel⟩
  rcases h with rfl | rfl <;> decide +kernel

theorem witness_FetchedOkPutsTheLoadOnBoard :
    (let s := serving .fetch store .fetch
     (s.crane 0).role ≠ .absent ∧ (s.crane 0).state = .fetch ∧ (s.crane 0).order = .none ∧
       s.craneJob? 0 = some (servedJob store .fetch) ∧ (∀ e, e ≠ 0 → (s.crane e).job ≠ some 7)) ∧
    (store.dest = some (.loc (near 6)) ∧ store.expTag = 5) ∧
    (let s := (serving .fetch retrieve .fetch).mapCrane 0 (fun x => { x with standing := some (.loc (near 5)) })
     s.craneJob? 0 = some (servedJob retrieve .fetch) ∧ (s.crane 0).standing = some (.loc (near 5)) ∧
       (s.crane 0).order = .none) ∧
    (retrieve.dest = some .outfeed ∧ retrieve.expTag ≠ 0 ∧ (6 : Tag) ≠ 0 ∧ retrieve.expTag ≠ 6 ∧
      retrieve.source = .loc (near 5)) := by decide +kernel

theorem witness_FetchedOk_infeed :
    ∀ ids ∈ [[], [7]],
    let s0 := (withLocs (serving .fetch store .fetch) [(near 6, { occ := .inbound 5 7 })]).mapCrane 0
      (fun x => { x with standing := some .infeed })
    let s : State := { s0 with jtb := { s0.jtb with headTaken := ids } }
    s.craneJob? 0 = some (servedJob store .fetch) ∧ (s.crane 0).standing = some .infeed ∧ store.source = .infeed ∧
      store.expTag ≠ 0 ∧ (6 : Tag) ≠ 0 ∧ store.expTag ≠ 6 ∧ s.ltb.wf = true ∧ (s.crane 0).order = .none ∧
      (∀ e, e ≠ 0 → (s.crane e).job ≠ some 7) := by decide +kernel

theorem witness_FetchedEmptyEndsTheJob : ∀ id, id = 2147483647 ∨ id = 2147483648 →
    let s := reporting 240 (serving .fetch { store with id := id } .fetch)
    (s.crane 0).role ≠ .absent ∧ (s.crane 0).state = .fetch ∧ (s.crane 0).order = .none ∧
      s.craneJob? 0 = some (servedJob { store with id := id } .fetch) ∧ (s.aisle (aisleOf 0)).state = .opened ∧
      2147483648 ≤ s.jtb.internalId ∧ s.hli.reports.length ≤ 240 := by
  rintro id (rfl | rfl) <;> decide +kernel

theorem witness_FetchedEmpty_locations :
    let s := withLocs (serving .fetch retrieve .fetch) [(near 5, { occ := .outbound 5 7 })]
    s.ltb.wf = true ∧ near 5 ∈ retrieve.locs ∧ (s.loc (near 5)).occ.holder = some retrieve.id := by decide +kernel

/-- Crane 0 at a place with a job's load. -/
def atPlace (j : Job) (x : Place) (t : LocTable) : State :=
  (withLocs (serving .place j .place) t).mapCrane 0 (fun c => { c with leg := some .atPlace, standing := some x })

theorem witness_PlacedOkEndsTheCycle :
    (let s := atPlace store (.loc (near 6)) [(near 6, { occ := .inbound 5 7 })]
     (s.crane 0).role ≠ .absent ∧ (s.crane 0).state = .place ∧ (s.crane 0).leg = some .atPlace ∧
       (s.crane 0).standing = some (.loc (near 6)) ∧ s.craneJob? 0 = some (servedJob store .place) ∧
       (s.aisle (aisleOf 0)).state = .opened ∧ store.id ∉ s.jtb.mismatched ∧ store.id < 2147483648 ∧
       2147483648 ≤ s.jtb.internalId ∧ s.ltb.wf = true ∧ store.dest = some (.loc (near 6)) ∧
       (s.loc (near 6)).occ = .inbound 5 store.id) ∧
    (let s := atPlace retrieve .outfeed []
     (s.crane 0).standing = some .outfeed ∧ s.craneJob? 0 = some (servedJob retrieve .place) ∧ s.ltb.wf = true ∧
       retrieve.id ∉ s.jtb.mismatched) := by decide +kernel

/-- A state whose job 7 carries a wrong tag. -/
def wrongTagged (s : State) : State := { s with jtb := { s.jtb with mismatched := [7] } }

/-- A clearance job, with an internal id, of the live job 8. -/
def clearing : Job :=
  { retrieve with id := 2147483648, kind := .clearance, dest := some (.loc (near 6)), parent := some 8 }

/-- A clearance job's end at its place; a wrong tag's end back at the source, which the job holds OUTBOUND or has taken INBOUND
again, and at another location, after a target found occupied and without one; a report queue with room for the reports. -/
theorem witness_PlacedOk_ends :
    (let s := reporting 240 (withJob (atPlace clearing (.loc (near 6))
       [(near 5, { occ := .outbound 5 2147483648 }), (near 6, { occ := .inbound 5 2147483648 })])
       { retrieve with id := 8, source := .loc (far 5) })
     s.craneJob? 0 = some (servedJob clearing .place) ∧ clearing.id ∉ s.jtb.mismatched ∧ s.isLive 8 = true ∧
       2147483648 ≤ s.jtb.internalId ∧ s.hli.reports.length ≤ 240 ∧
       near 5 ∈ clearing.locs ∧ (s.loc (near 5)).occ = .outbound 5 clearing.id ∧ s.ltb.wf = true) ∧
    (∀ o ∈ [Occ.outbound 5 7, .inbound 6 7],
     let s := reporting 240 (wrongTagged (atPlace { retrieve with dest := some (.loc (near 5)), tagRead := some 6 }
       (.loc (near 5)) [(near 5, { occ := o })]))
     (s.crane 0).standing = some (.loc (near 5)) ∧ retrieve.source = .loc (near 5) ∧ (s.loc (near 5)).occ = o ∧
       7 ∈ s.jtb.mismatched ∧ s.hli.reports.length ≤ 240) ∧
    (∀ ids ∈ [[], [7]],
     let s0 := reporting 240 (wrongTagged (atPlace { store with tagRead := some 6 } (.loc (near 6))
       [(near 6, { occ := .inbound 6 7 })]))
     let s : State := { s0 with jtb := { s0.jtb with targetOccupied := ids } }
     (s.crane 0).standing = some (.loc (near 6)) ∧ store.source ≠ .loc (near 6) ∧ 7 ∈ s.jtb.mismatched ∧
       (s.loc (near 6)).occ = .inbound 6 store.id ∧ s.hli.reports.length ≤ 240) := by decide +kernel

/-- R9, R11: a wrong tag's load put down at its own source, which a place selection had made INBOUND again, is recorded FULL
with the tag read, and the job is gone. -/
theorem test_wrong_tag_back_at_source :
    let t := after (.placedOk 0) (wrongTagged (atPlace { retrieve with dest := some (.loc (near 5)), tagRead := some 6 }
      (.loc (near 5)) [(near 5, { occ := .inbound 6 7 })]))
    (t.loc (near 5), t.jtb.jobs) = ({ occ := .full 6 }, []) := by decide +kernel

theorem witness_PlacedOccupiedKeepsTheLoad :
    (let s := atPlace store (.loc (near 6)) [(near 6, { occ := .inbound 5 7 })]
     (s.crane 0).role ≠ .absent ∧ (s.crane 0).state = .place ∧ (s.crane 0).leg = some .atPlace ∧
       s.craneJob? 0 = some (servedJob store .place) ∧ (s.crane 0).standing = some (.loc (near 6)) ∧
       (s.loc (near 6)).occ.holder = some store.id ∧ s.ltb.wf = true) ∧
    (let s := wrongTagged (atPlace { store with tagRead := some 6 } (.loc (near 6)) [(near 6, { occ := .inbound 6 7 })])
     (s.loc (near 6)).occ = .inbound 6 store.id ∧ store.id ∈ s.jtb.mismatched ∧ store.id ∉ s.jtb.targetOccupied) ∧
    (let s := wrongTagged (atPlace { retrieve with dest := some (.loc (near 5)), tagRead := some 6 } (.loc (near 5))
       [(near 5, { occ := .outbound 5 7 })])
     (s.loc (near 5)).occ.holder = some 7 ∧ 7 ∈ s.jtb.mismatched) ∧
    (let s := atPlace retrieve .outfeed []
     (s.crane 0).leg = some .atPlace ∧ s.craneJob? 0 = some (servedJob retrieve .place) ∧
       (s.crane 0).standing = some .outfeed ∧ (servedJob retrieve .place).waits.noPlace = false) := by decide +kernel

/-- The last clause of the statement above, at the job's first place and at a disposal target; and R41: the note is set. -/
theorem witness_PlacedOccupied_late : ∀ cs ∈ [CraneState.faulted, .stopped], ∀ x ∈ [Occ.inbound 5 7, .inbound 6 7],
    let j : Job := { store with tagRead := some 6 }
    let s := wrongTagged ((withLocs (serving cs j (.stranded .place)) [(near 6, { occ := x })]).mapCrane 0
      (fun c => { c with leg := some .atPlace, standing := some (.loc (near 6)) }))
    (s.crane 0).role ≠ .absent ∧ (s.crane 0).state = cs ∧ (s.crane 0).leg = some .atPlace ∧
      (s.crane 0).standing = some (.loc (near 6)) ∧ s.craneJob? 0 = some (servedJob j (.stranded .place)) ∧
      (s.loc (near 6)).occ.holder = some j.id ∧ s.ltb.wf = true ∧
      (let t := after (.placedOccupied 0) s
       (t.job? 7).map Job.noteOccupied = some true ∧ t.jtb.targetOccupied = if x = .inbound 6 7 then [7] else []) := by
  decide +kernel

theorem witness_MovesEndAtTheirTargets :
    (let s := (serving .hold retrieve .lead).mapCrane 1 (fun x => { x with state := .move, move := some (.yielding, 11) })
     (s.crane 1).role ≠ .absent ∧ (s.crane 1).state = .move ∧ (s.crane 1).move = some (.yielding, 11) ∧
       (s.aisle (aisleOf 1)).state = .opened ∧ (s.crane (other 1)).state = .hold ∧
       s.craneJob? (other 1) = some (servedJob retrieve .lead)) ∧
    (serving .lead retrieve .lead).parkTime 0 = none ∧
    (opened.parkTime 0 = some 30000 ∧ (opened.crane 0).pos = some (0, 0) ∧
      1 = parkBay (opened.craneProf 0) (opened.crane 0).role ∧ opened.plainTest 0 (min 0 1, max 0 1) = true) ∧
    (let s := opened.mapCrane 1 (fun x => { x with span := some (2, 11) })
     s.parkTime 0 = some 30000 ∧ s.plainTest 0 (min 0 1, max 0 1) = false ∧ s.hli.replies = [] ∧ s.hli.reports = []) := by
  decide +kernel

/-- Crane 0 on a reference run. -/
def referencing : State := crane0 (fun x => { x with state := .reference })

theorem witness_ReferencedEndsTheRun :
    ((referencing.crane 0).role ≠ .absent ∧ (referencing.crane 0).state = .reference ∧
      (referencing.crane 0).carryPending = false ∧ (referencing.aisle (aisleOf 0)).state = .opened ∧
      (referencing.aisle (aisleOf 0)).start = none ∧ (referencing.crane 0).job = none ∧
      10 ≤ (referencing.craneProf 0).driftLimit ∧ (referencing.craneProf 0).driftLimit < 11) ∧
    (let st : Start := { kind := .full, phase := .referencing, runsFront := 0, runsRear := 1 }
     let s := referencing.mapAisle 0 (fun x => { x with state := .starting, start := some st })
     (s.crane 0).state = .reference ∧ (s.aisle (aisleOf 0)).start = some st ∧ st.kind = .full ∧ st.runs 0 = 0) := by
  decide +kernel

/-- Aisle 0 in a start, with crane 0 on a reference run. -/
def starting (st : Start) : State := referencing.mapAisle 0 (fun x => { x with state := .starting, start := some st })

/-- R81, R177: the first run of a FULL start sets the count to 0 at a drift of the limit, and leaves it at one above. -/
theorem test_first_run_count : [10, 11].map (fun drift =>
    let s := (starting { kind := .full, phase := .referencing, runsFront := 0, runsRear := 0 }).mapCrane 0
      (fun x => { x with cycles := 200, refStatus := .due })
    ((after (.referenced 0 drift false 0) s).crane 0).cycles) = [0, 200] := by decide +kernel

theorem witness_ReferencedEndsTheRun_starts :
    ∀ st ∈ [({ kind := .full, phase := .referencing, runsFront := 1, runsRear := 2 } : Start),
        { kind := .release, phase := .referencing, runsFront := 0, runsRear := 1 }],
      ((starting st).aisle (aisleOf 0)).state = .starting ∧ ((starting st).aisle (aisleOf 0)).start = some st ∧
      (st.kind = .full → 1 ≤ st.runs 0) ∧ ((starting st).crane 0).job = none ∧
      (∀ e, aisleOf e = aisleOf 0 → e ≠ 0 → ((starting st).crane e).role ≠ .absent →
        (st.kind = .full → 2 ≤ st.runs e ∧ ((starting st).crane e).state = .idle) ∧
        (st.kind = .release → 1 ≤ st.runs e)) ∧
      st.phase = .referencing ∧ (starting st).hli.reports.length ≤ 240 := by decide +kernel

/-- A RELEASE start whose other crane has a job stranded in a phase. -/
theorem witness_ReferencedEndsTheRun_stranded : ∀ ph ∈ [Phase.fetch, .haul, .place],
    let s := withJob ((starting { kind := .release, phase := .referencing, runsFront := 0, runsRear := 0 }).mapCrane 1
      (fun x => { x with state := .reference, job := some 7 })) { retrieve with state := .stranded ph, crane := some 1 }
    (s.crane 0).job = none ∧ (s.crane 1).role ≠ .absent ∧ (s.crane 1).state ≠ .offline ∧
      s.craneJob? 1 = some { retrieve with state := .stranded ph, crane := some 1 } ∧
      (∀ d, d ≠ 1 → (s.crane d).job ≠ some 7) ∧ (∀ d, (s.crane d).promised ≠ some 7) := by decide +kernel

theorem witness_ReferencedResolvesTheStrandedJob :
    ∀ ph, ph = Phase.fetch ∨ ph = Phase.haul ∨ ph = Phase.place →
      let s := reporting 240 (serving .reference retrieve (.stranded ph))
      (s.crane 0).role ≠ .absent ∧ (s.crane 0).state = .reference ∧ (s.crane 0).carryPending = false ∧
        (s.aisle (aisleOf 0)).state = .opened ∧ (s.aisle (aisleOf 0)).start = none ∧ 10 ≤ (s.craneProf 0).driftLimit ∧
        s.craneJob? 0 = some (servedJob retrieve (.stranded ph)) ∧ retrieve.dest = some .outfeed ∧
        retrieve.id < 2147483648 ∧ 2147483648 ≤ s.jtb.internalId ∧ (∀ e, e ≠ 0 → (s.crane e).job ≠ some 7) ∧
        s.hli.reports.length ≤ 240 ∧ (5 : Tag) = retrieve.expTag := by
  intro ph h
  rcases h with rfl | rfl | rfl <;> decide +kernel

/-- A STORE stranded in FETCH at the infeed, with its head still there or removed before. -/
theorem witness_ReferencedResolves_head : ∀ ids ∈ [[], [7]],
    let s0 := withLocs (serving .reference store (.stranded .fetch)) [(near 6, { occ := .inbound 5 7 })]
    let s : State := { s0 with jtb := { s0.jtb with headTaken := ids } }
    s.craneJob? 0 = some (servedJob store (.stranded .fetch)) ∧ store.dest = some (.loc (near 6)) ∧
      store.source = .infeed ∧ store.expTag ≠ 0 ∧ (6 : Tag) ≠ store.expTag ∧ (6 : Tag) ≠ 0 ∧ s.ltb.wf = true ∧
      (s.crane 0).carryPending = false := by decide +kernel

theorem witness_ReferencedResolves_wrongTag : ∀ t x : Tag, (t, x) = (6, 6) ∨ (t, x) = (0, 9) →
    let j : Job := { retrieve with tagRead := some 9 }
    let s := serving .reference j (.stranded .place)
    s.craneJob? 0 = some (servedJob j (.stranded .place)) ∧ j.expTag ≠ 0 ∧ s.ltb.wf = true ∧
      (if t = 0 then j.tagRead.getD 0 else t) = x ∧ x ≠ 0 ∧ x ≠ j.expTag ∧ 10 ≤ (s.craneProf 0).driftLimit := by
  intro t x h
  rcases h with h | h <;> cases h <;> decide +kernel

/-- A job stranded under crane 0, which is FAULTED or STOPPED, with room for the reports. -/
def stranded (cs : CraneState) (j : Job) (ph : Phase) : State := reporting 94 (serving cs j (.stranded ph))

theorem witness_ReferencedResolves_late : ∀ cs ∈ [CraneState.faulted, .stopped], ∀ ph ∈ [Phase.fetch, .haul, .place],
    ((stranded cs store ph).crane 0).role ≠ .absent ∧ ((stranded cs store ph).crane 0).state = cs ∧
    (stranded cs store ph).craneJob? 0 = some (servedJob store (.stranded ph)) ∧
    (∀ e, e ≠ 0 → ((stranded cs store ph).crane e).job ≠ some 7) ∧
    ((stranded cs store ph).aisle (aisleOf 0)).state ≠ .closing ∧ store.id < 2147483648 ∧
    2147483648 ≤ (stranded cs store ph).jtb.internalId ∧ (stranded cs store ph).hli.reports.length ≤ 240 ∧
    (((stranded cs store ph).mapCrane 0 (fun x => { x with leg := some .atPlace, standing := some (.loc (near 6)) })).crane
      0).standing = some (.loc (near 6)) := by decide +kernel

theorem witness_ReferencedResolves_lateNoJob : ∀ cs ∈ [CraneState.faulted, .stopped],
    let s := reporting 255 (crane0 (fun x => { x with state := cs }))
    (s.crane 0).role ≠ .absent ∧ (s.crane 0).state = cs ∧ (s.crane 0).job = none ∧ s.hli.reports.length < 256 := by
  decide +kernel

theorem witness_ReferencedResolves_lateOk : (stranded .faulted store .haul).hli.ok := in_order (by decide +kernel)

/-- Crane 0 with an unanswered STOP. -/
def stopping : State := reporting 95 (crane0 (fun x => { x with state := .stopped, stopDeadline := some 5000 }))

theorem witness_StopAnswersEndTheWait : stopping.hli.ok ∧ (stopping.aisle (aisleOf 0)).start = none ∧
    (stopping.crane 0).stopDeadline = some 5000 ∧ (stopping.crane 0).role ≠ .absent ∧ stopping.hli.reports.length < 256 :=
  ⟨in_order (by decide +kernel), by decide +kernel, by decide +kernel, by decide +kernel, by decide +kernel⟩

/-- A job promised to crane 0. -/
def promised : Job := { retrieve with id := 8, urgency := 0, state := .promised, crane := some 0 }

/-- Crane 0 serving a job, under an order. -/
def ordered (cs : CraneState) (js : JobState) (o : OutOrder) (p : Option JobId) : State :=
  (withJob (serving cs retrieve js) promised).mapCrane 0 (fun x => { x with order := o, promised := p })

theorem witness_RedirectAnswersSettleThePromise :
    ∀ cs js, (cs, js) = (CraneState.lead, JobState.lead) ∨ (cs, js) = (CraneState.fetch, JobState.fetch) →
      let s := ordered cs js .redirect (some 8)
      (s.crane 0).role ≠ .absent ∧ (s.crane 0).order = .redirect ∧ s.craneJob? 0 = some (servedJob retrieve js) ∧
        (s.crane 0).promised = some promised.id ∧ s.job? promised.id = some promised ∧ promised.id ≠ retrieve.id ∧
        (s.crane 0).state = cs ∧ (∀ e, e ≠ 0 → (s.crane e).job ≠ some promised.id) := by
  intro cs js h
  rcases h with h | h <;> cases h <;> decide +kernel

/-- A rush job of urgency 0 while crane 0 leads with a job of urgency 4, the other crane being no choice. -/
def rushing : State :=
  ((withJob (serving .lead { retrieve with urgency := 4 } .lead)
    { retrieve with id := 8, urgency := 0, source := .loc (near 4), queue := 0 }).mapCrane 0
      (fun x => { x with span := some (0, 5) })).mapAisle 0 (fun x => { x with
        active := { Schedule.reset with
          wheel := { entries := Schedule.reset.wheel.entries.set 0 { queue := some 0 }, count := 1 } } })
  |>.mapCrane 1 (fun x => { x with state := .faulted })

theorem witness_RedirectAnswers_rush :
    let w := Work.start rushing
    (w.st.job? 8).map Job.id = some 8 ∧ (w.redirect 8).2 = true ∧
      ((Work.start (rushing.mapAisle 0 (fun x => { x with ceiling := 0 }))).redirect 8).2 = false := by decide +kernel

theorem witness_AbortAnswersEndTheCancel :
    (let s := ordered .lead .lead .abort none
     (s.crane 0).role ≠ .absent ∧ (s.crane 0).order = .abort ∧ s.craneJob? 0 = some (servedJob retrieve .lead) ∧
       s.hli.replies = [] ∧ s.hli.reports = [] ∧ (s.crane 0).state = .lead ∧ (s.aisle (aisleOf 0)).state = .opened ∧
       (s.aisle (aisleOf 0)).start = none ∧ retrieve.id < 2147483648 ∧ 2147483648 ≤ s.jtb.internalId ∧
       s.stopPosOk 0 0 4 = true ∧ s.stopPosOk 0 1 0 = false) ∧
    (let s := ordered .fetch .fetch .abort none
     (s.crane 0).order = .abort ∧ (s.crane 0).state = .fetch) := by decide +kernel

theorem witness_AbortAnswers_locations : ∀ id, id = 2147483647 ∨ id = 2147483648 →
    let s := withLocs (reporting 240 ((serving .lead { retrieve with id := id, cancelReq := some .groupCancelled }
      .lead).mapCrane 0 (fun x => { x with order := .abort }))) [(near 5, { occ := .outbound 5 id })]
    s.lineFed ∧ s.ltb.wf = true ∧ near 5 ∈ retrieve.locs ∧ (s.loc (near 5)).occ = .outbound 5 id ∧
      s.hli.reports.length ≤ 240 ∧ s.stopPosOk 0 0 4 = true ∧ (s.crane 0).order = .abort ∧
      (s.craneJob? 0).map Job.cancelReq = some (some .groupCancelled) := by
  intro id h
  refine ⟨nofun, ?_⟩
  rcases h with rfl | rfl <;> decide +kernel

/-- R40, R72: crane 0 FAULTED, its job ended, with a span that holds bay 0 and not bay 1. -/
theorem witness_AbortAnswers_late :
    let s := reporting 240 (crane0 (fun x => { x with state := .faulted, pos := none, span := some (0, 0) }))
    (s.crane 0).role ≠ .absent ∧ (s.crane 0).state = .faulted ∧ (s.crane 0).job = none ∧ s.hli.line ≠ none ∧
      s.stopPosOk 0 0 4 = true ∧ s.stopPosOk 0 1 0 = false := by decide +kernel

/-- Crane 0 while its link is proved, at a frame, with an error count. -/
def proving (n e : Nat) : State :=
  ((twin .starting).mapCrane 0 (fun x => { x with state := .offline, link := .proving })).setProving 0
    { errors := e, frame := some n, echoDeadline := some 200 }

theorem witness_EchoesDecideTheFrames : ∀ n e, (n, e) = (63, 1) ∨ (n, e) = (62, 0) ∨ (n, e) = (0, 0) →
    (proving n e).hli.replies = [] ∧ (proving n e).hli.reports = [] ∧ ((proving n e).crane 0).role ≠ .absent ∧
    ((proving n e).crane 0).state = .offline ∧ ((proving n e).crane 0).link = .proving ∧
    ((proving n e).provingOf 0).frame = some n ∧ ((proving n e).provingOf 0).errors = e ∧
    ((proving n e).provingOf 0).echoDeadline = some 200 ∧ probeBody n ≠ [] := by
  intro n e h
  rcases h with h | h | h <;> cases h <;> decide +kernel

theorem witness_FaultsStopTheCrane :
    let s := serving .haul store .haul
    (s.crane 0).role ≠ .absent ∧ (s.aisle (aisleOf 0)).state = .opened ∧ (s.aisle (aisleOf 0)).start = none ∧
      (s.crane 0).state ≠ .offline ∧ (s.crane 0).state ≠ .faulted ∧ (s.crane 0).state ≠ .stopped ∧
      (s.crane 0).promised = none ∧ (s.crane 0).motionDeadline = some 9000 ∧
      s.craneJob? 0 = some (servedJob store .haul) ∧ (servedJob store .haul).state = .haul ∧
      (∀ e, e ≠ 0 → (s.crane e).job ≠ some 7) := by decide +kernel

/-- A crane in HAUL fits none of the reports below; one in LEAD under REDIRECT fits no AT-DESTINATION and no ABORT answer. -/
theorem witness_FaultsStopTheCrane_misfits :
    (let s := serving .haul store .haul
     (s.crane 0).state ≠ .lead ∧ (s.crane 0).state ≠ .fetch ∧ (s.crane 0).state ≠ .place ∧ (s.crane 0).state ≠ .move ∧
       (s.crane 0).state ≠ .reference ∧ (s.crane 0).stopDeadline = none ∧ (s.crane 0).order ≠ .redirect ∧
       (s.crane 0).order ≠ .abort) ∧
    (let s := ordered .lead .lead .redirect (some 8)
     (s.crane 0).state ≠ .haul ∧ (s.crane 0).state ≠ .place ∧ (s.crane 0).order ≠ .abort ∧
       (s.crane 0).promised = some 8 ∧ (s.aisle (aisleOf 0)).state = .opened ∧ (s.aisle (aisleOf 0)).start = none) ∧
    (let s := ordered .lead .lead .abort none
     s.stopPosOk 0 1 0 = false ∧ (s.crane 0).state = .lead ∧ (s.crane 0).order = .abort) := by decide +kernel

theorem witness_DiscardedFramesChangeNothing :
    (reportingCrane (.placedOk 2) = some 2 ∧ (opened.crane 2).role = .absent) ∧
    (let s := twin .closed |>.mapCrane 1 (fun x => { x with state := .offline, link := .unproven })
     reportingCrane (.referenced 1 0 true 9) = some 1 ∧ (s.crane 1).state = .offline ∧
       (s.crane 1).stopDeadline = none ∧ (s.crane 1).link ≠ .proving ∧ s.hli.replies = [] ∧ s.hli.reports = []) := by
  decide +kernel

theorem witness_DiscardedFrames_proving :
    let s := proving 5 0
    (s.crane 0).role ≠ .absent ∧ (s.crane 0).state = .offline ∧ (s.crane 0).link = .proving ∧ s.hli.replies = [] ∧
      s.hli.reports = [] ∧ (s.provingOf 0).frame ≠ some 6 ∧ reportingCrane (.placedOk 0) = some 0 ∧
      reportingCrane (.echo 0 6 []) = some 0 := by decide +kernel

/-- A schedule whose wheel serves queue 0. -/
def wheel0 : Schedule :=
  { Schedule.reset with wheel := { entries := Schedule.reset.wheel.entries.set 0 { queue := some 0 }, count := 1 } }

/-- Aisle 0 OPEN with a schedule and a READY job. -/
def granting (j : Job) : State :=
  (withLocs (withJob opened { j with readySince := some 0 })
    [(near 5, { occ := .outbound 5 7 }), (near 6, { occ := .inbound 5 7 })]).mapAisle 0 (fun x => { x with active := wheel0 })

theorem witness_TheRailKeepsTheSeparation :
    (opened.plainTest 0 (0, 8) = true ∧ (opened.crane 0).role = .front) ∧
    (opened.plainTest 1 (3, 11) = true ∧ (opened.crane 1).role = .rear) ∧
    (let s := opened.mapCrane 1 (fun x => { x with pos := some (6, 0), span := some (6, 6) })
     s.plainTest 0 (0, 8) = false ∧ s.yieldTest 0 (0, 8) = some 11) ∧
    (let s := opened.mapCrane 0 (fun x => { x with pos := some (8, 0), span := some (8, 8) })
     s.plainTest 1 (3, 11) = false ∧ s.yieldTest 1 (3, 11) = some 0) ∧
    (let w := Work.start (granting retrieve)
     (w.st.aisle (aisleOf 0)).profile = some prof ∧ (w.st.crane 0).state = .idle ∧ w.st.claimOf 0 = none ∧
       ((w.decide 0).st.crane 0).state = .lead ∧ (w.st.crane 0).role = .front) ∧
    (let w := Work.start (granting store)
     (w.st.crane 1).state = .idle ∧ w.st.claimOf 1 = none ∧ ((w.decide 1).st.crane 1).state = .lead ∧
       (w.st.crane 1).role = .rear) := by decide +kernel

/-- The test job READY in an aisle whose schedule holds its queue in the one list that is named, at an index. -/
def scheduled (l : ListName) (i : Nat) : State :=
  (granting retrieve).mapAisle 0 (fun x => { x with active := Schedule.reset.edited l i [{ queue := some 0 }] (some (i + 1)),
                                                    rot1Ptr := 15, rot2Ptr := i })

theorem witness_CeilingAndSchedule_choice :
    (∀ l ∈ [ListName.wheel, .priority, .firstRotation, .secondRotation],
      (∀ j ∈ (scheduled l 0).jtb.jobs, j.stamp ≤ 2147483647) ∧ (scheduled l 0).available 0 = true ∧
        ((scheduled l 0).aisle 0).marked = false) ∧
    [(ListName.wheel, 0), (.priority, 0), (.priority, 15), (.firstRotation, 0), (.firstRotation, 15), (.secondRotation, 0),
      (.secondRotation, 15), (.wheel, 1)].map (fun x => ((scheduled x.1 x.2).choose 0).map (fun y => (y.1, y.2.id))) =
    [some (.wheel, 7), some (.priority, 7), some (.priority, 7), some (.first 0, 7), some (.first 15, 7),
     some (.second 0, 7), some (.second 15, 7), none] := by decide +kernel

/-- Aisle 0 OPEN, crane 0 leading with a job in its span. -/
def leading : State := (serving .lead retrieve .lead).mapCrane 0 (fun x => { x with span := some (0, 5) })

theorem witness_TheRail_invariant : leading.railed ∧ (leading.withFront (.atSource 0)).railed := by
  have others : ∀ c, c = 0 ∨ c = 1 ∨ leading.crane c = Crane.reset := by decide +kernel
  have fits : ∀ c, leading.jobFits c ∧ leading.promiseFits c ∧ leading.reachFits c ∧ leading.spanFits c ∧
      leading.aisleFits c := by
    intro c
    refine ⟨?_, ?_, ?_, ?_, ?_⟩
    · intro id h
      rcases others c with rfl | rfl | k
      · cases (h : some 7 = some id); exact ⟨_, rfl, rfl, rfl⟩
      · cases (h : none = some id)
      · rw [k] at h; cases h
    · have : (leading.crane c).order = .none ∧ (leading.crane c).promised = none ∧ leading.claimOf c = none := by
        revert c; decide +kernel
      rw [State.promiseFits, this.1]; exact this.2
    · have : ((leading.crane c).span.all (fun x => decide (x.1 ≤ x.2) &&
            inReach (leading.craneProf c) (leading.crane c).role x.1 &&
            inReach (leading.craneProf c) (leading.crane c).role x.2)) = true ∧ leading.claimOf c = none := by
        revert c; decide +kernel
      rintro x (h | h)
      · simpa [h, and_assoc] using this.1
      · rw [this.2] at h; cases h
    · rcases others c with rfl | rfl | k
      · exact ⟨_, _, ⟨rfl, rfl, nofun, _, rfl, by unfold holdsBay; decide +kernel⟩, rfl,
          fun y hy => by cases (hy : some (0, 5) = some y); unfold holdsBay; decide +kernel⟩
      · exact ⟨_, rfl, rfl⟩
      · simp [State.spanFits, k, Crane.reset]
    · unfold State.aisleFits; revert c; decide +kernel
  have rail : ∀ c x y, (leading.crane c).role = .front → leading.effectiveSpan c = some x →
      leading.effectiveSpan (other c) = some y → x.2 + (leading.craneProf c).separation ≤ y.1 := by
    intro c x y hr hx hy
    rcases others c with rfl | rfl | k
    · cases (hx : some (0, 5) = some x); cases (hy : some (11, 11) = some y); decide +kernel
    · cases (hr : Role.rear = .front)
    · rw [k] at hr; cases hr
  have jobs : (leading.jtb.jobs.map Job.id).Nodup ∧ (∀ j ∈ leading.jtb.jobs, j.dest ≠ some .infeed) ∧
      leading.blockedFits := by
    unfold State.blockedFits; decide +kernel
  exact ⟨⟨fits, jobs.1, jobs.2.1, jobs.2.2, rail⟩, ⟨fits, jobs.1, jobs.2.1, jobs.2.2, rail⟩⟩

theorem witness_TheRail_profiled : leading.profiled :=
  ⟨legal_profiles (by decide +kernel), by decide +kernel, by decide +kernel⟩

theorem witness_TheRail_bothSpans : (leading.aisle 0).profile = some prof ∧ prof.craneCount = 2 ∧
    leading.effectiveSpan (frontOf 0) = some (0, 5) ∧ leading.effectiveSpan (rearOf 0) = some (11, 11) := by decide +kernel

theorem witness_PlaceSelectionTakesTheFirstRanked :
    opened.selectPlace 1 (some (11, 0)) (fun _ => true) = none ∧
    (withLocs opened [(near 6, { occ := .empty }), (far 6, { occ := .full 1 })]).selectPlace 1 (some (11, 0))
      (fun _ => true) = some (near 6) ∧
    (withLocs opened [(near 6, { occ := .empty }), (far 6, { occ := .empty })]).selectPlace 1 (some (11, 0))
      (fun _ => true) = some (far 6) := by
  decide +kernel

/-- The last clause of the statement above: a job that crane 0 may take, one that only a yield lets it take, and a clearance
job, first without a place and then with one. -/
theorem witness_PlaceSelection_eligible : opened.profiled ∧
    (let s := opened.mapCrane 1 (fun x => { x with pos := some (6, 0), span := some (6, 6) })
     [retrieve, { retrieve with source := .loc (near 8) }].map (fun j => (opened.eligible 0 j, s.eligible 0 j)) =
       [(true, true), (true, true)] ∧ s.plainTest 0 (0, 8) = false) ∧
    (let j : Job := { retrieve with kind := .clearance, dest := none }
     opened.eligible 0 j = false ∧
       (withLocs opened [(near 6, { occ := .empty }), (far 6, { occ := .empty })]).eligible 0 j = true) :=
  ⟨⟨legal_profiles (by decide +kernel), by decide +kernel, by decide +kernel⟩, by decide +kernel, by decide +kernel⟩

/-- The body of a run of two RETRIEVEs from bay 5. -/
def runBody : List Byte :=
  RunBody.bytes { id := 1, kind := .retrieve, aisle := 0, side := 0, bay := 5, level := 1, depth := 0, step := .bay,
                  lane := false, stopOnFailure := false, count := 2, window := 9, urgency := 9, queue := 15, group := none }

/-- The run that this body asks for. -/
def asked : Run :=
  { id := 1, kind := .retrieve, aisle := 0, pointer := some (near 5), step := .bay, lane := false, count := 2, toSpawn := 2,
    live := 0, window := 4, urgency := 7, queue := 15, group := none, stopOnFailure := false, cause := none,
    completed := 0, failed := 0, skipped := 0 }

/-- A full job table. -/
def crowded : State := { stocked with jtb := { stocked.jtb with jobs := List.replicate 1024 retrieve } }

theorem ok_of {α : Type} {x : Except Result α} {y : α} (h : x.toOption = some y) : x = .ok y := by
  cases x with
  | error e => cases h
  | ok z => cases h; rfl

theorem witness_SubmitRunAdmitsAndSpawns :
    (stocked.mayTakeRequest = true ∧ stocked.checkRun runBody = .ok asked ∧ asked.group = none ∧
      stocked.recordFree = true ∧ asked.pointer = some (near 5) ∧ (stocked.suits asked (near 5)).isSome = true) ∧
    (crowded.mayTakeRequest = true ∧ crowded.checkRun runBody = .ok asked ∧ crowded.lineFed ∧
      crowded.recordFree = false) :=
  ⟨⟨by decide +kernel, ok_of (by decide +kernel), rfl, by decide +kernel, rfl, by decide +kernel⟩,
    ⟨by decide +kernel, ok_of (by decide +kernel), fed rfl rfl, by decide +kernel⟩⟩

/-- The run of the body below: the positions 1 and 2 of group 4. -/
def askedGroup : Run := { asked with group := some { id := 4, next := 1, last := 2 } }

/-- The body of that run. -/
def groupRunBody : List Byte :=
  RunBody.bytes { id := 1, kind := .retrieve, aisle := 0, side := 0, bay := 5, level := 1, depth := 0, step := .bay,
                  lane := false, stopOnFailure := false, count := 2, window := 9, urgency := 9, queue := 15,
                  group := some (4, 1) }

theorem witness_SubmitRun_grouped : ∀ s ∈ [stocked, crowded],
    let s : State := { s with groups := [{ someGroup with positions := [.free, .free] }] }
    s.mayTakeRequest = true ∧ (s.checkRun groupRunBody).toOption = some askedGroup ∧
      s.group? 4 = some { someGroup with positions := [.free, .free] } ∧ someGroup.next ≤ 1 ∧
      askedGroup.pointer = some (near 5) ∧ (s.recordFree = true → (s.suits askedGroup (near 5)).isSome = true) := by
  decide +kernel

theorem witness_SubmitRun_grouped_free : stocked.recordFree = true ∧ crowded.recordFree = false := by decide +kernel

theorem witness_EndRunStopsTheRun :
    (let s : State := { withJob opened { retrieve with id := 2147483648, run := some 1 } with
       rnu := { runs := [{ asked with live := 1, toSpawn := 1 }], marker := none } }
     s.mayTakeRequest = true ∧ s.hli.replies = [] ∧ s.hli.reports = [] ∧
       s.run? 1 = some { asked with live := 1, toSpawn := 1 } ∧ asked.cause = none ∧ asked.group = none ∧
       (s.childrenOf 1).length = 1) ∧
    (let s : State := { opened with rnu := { runs := [asked], marker := none } }
     s.run? 1 = some asked ∧ asked.live = 0 ∧ s.childrenOf 1 = [] ∧ s.hli.reports.length < 256) := by decide +kernel

/-- A run with two children, one READY and one on its crane. -/
def running (js : JobState) : State :=
  let kid : Job := { retrieve with id := 2147483649, run := some 1 }
  { withJob (serving .haul { retrieve with id := 2147483648, run := some 1 } js) kid with
    rnu := { runs := [{ asked with live := 2, toSpawn := 0 }], marker := none } }

theorem witness_EndRun_withdraw :
    (running .haul).mayTakeRequest = true ∧ (running .haul).run? 1 = some { asked with live := 2, toSpawn := 0 } ∧
    ((running .haul).childrenOf 1).length = 2 ∧ ((running .haul).jtb.jobs.map Job.id).Nodup ∧
    (∀ j ∈ (running .haul).jtb.jobs, j.run = some 1 → j.kind ≠ .clearance) ∧
    (∀ c, ((running .haul).crane c).carryPending = false) ∧
    ((running .haul).childrenOf 1).map (fun j => j.state.unstarted || j.state.phase?.isSome) = [false, true] ∧
    ((running .ready).childrenOf 1).map (fun j => j.state.unstarted || j.state.phase?.isSome) = [true, true] := by
  decide +kernel

theorem witness_EndRun_grouped :
    let g : Group := { someGroup with positions := [.spawnPending 1, .spawnPending 9] }
    let s : State := { opened with rnu := { runs := [askedGroup], marker := none }, groups := [g] }
    s.run? 1 = some askedGroup ∧ askedGroup.cause = none ∧ askedGroup.group = some { id := 4, next := 1, last := 2 } ∧
      s.group? 4 = some g := by decide +kernel

theorem witness_RecordFreeNoticeSpawns :
    opened.jtb.freeNotices = 0 ∧
    (let s : State := { stocked with
       jtb := { stocked.jtb with freeNotices := 1 }, rnu := { runs := [asked], marker := none } }
     0 < s.jtb.freeNotices ∧ s.rnu.runs = [asked] ∧ s.maySpawn asked = true ∧ asked.pointer = some (near 5) ∧
       (s.suits asked (near 5)).isSome = true) := by decide +kernel

/-- Aisle 0 with a number of loads at its infeed. -/
def fedWith (n : Nat) : State :=
  reporting 255 (opened.mapStation 0 (fun x => { x with infeed := List.replicate n { tag := 3, mark := false } }))

theorem witness_LoadsArriveAndDepart :
    ((fedWith 3).hli.ok ∧ (fedWith 3).hli.reports.length < 256 ∧ ((fedWith 3).aisle 0).profile = some prof ∧
      ((fedWith 3).station 0).infeed.length < prof.infeedCap) ∧
    ((fedWith 4).hli.ok ∧ prof.infeedCap ≤ ((fedWith 4).station 0).infeed.length) ∧
    ((fedWith 4).aisle 7).profile = none ∧ 8 ≤ (8 : Nat) ∧
    (let s := opened.mapStation 0 (fun x => { x with outfeed := [{ tag := 3, member := none }], releasing := true })
     (s.station 0).releasing = true ∧ s.stu.collector ≠ .ready ∧ (s.station 1).releasing = false) :=
  ⟨⟨in_order (by decide +kernel), by decide +kernel, by decide +kernel, by decide +kernel⟩,
    ⟨in_order (by decide +kernel), by decide +kernel⟩, by decide +kernel, by decide, by decide +kernel⟩

/-- Loads at the outfeeds of aisles 2 and 6, with a group and a rotation start. -/
def outfeeds (m2 m6 : Option (GroupId × Nat)) (gs : List Group) (r : AisleNo) : State :=
  { (opened.mapStation 2 (fun x => { x with outfeed := [{ tag := 1, member := m2 }] })).mapStation 6
      (fun x => { x with outfeed := [{ tag := 2, member := m6 }] }) with groups := gs }
  |> fun s => { s with stu := { s.stu with rotation := r } }

theorem witness_CollectorReadyReleasesTheWinner :
    ((outfeeds none none [] 3).lineFed ∧ (∀ b, ((outfeeds none none [] 3).station b).releasing = false) ∧
      (outfeeds none none [] 3).releaseWinner = some (6, true)) ∧
    opened.releaseWinner = none ∧
    ((outfeeds none none [] 3).mapStation 1 (fun x => { x with releasing := true }) |>.station 1).releasing = true :=
  ⟨⟨fed rfl rfl, by decide +kernel, by decide +kernel⟩, by decide +kernel, by decide +kernel⟩

theorem witness_CollectorReady_linkUp :
    (let s : State := { opened with stu := { opened.stu with linkUp := true } }
     s.stu.linkUp = true) ∧
    (let s := opened.mapStation 0 (fun x => { x with infeed := [{ tag := 3, mark := false }] })
     s.stu.linkUp = false ∧ (s.station 0).infeed ≠ []) ∧
    (opened.hli.replies = [] ∧ opened.hli.reports = [] ∧ opened.stu.linkUp = false ∧
      (∀ a, opened.station a = Station.reset) ∧ opened.stu.collector = .notReady ∧ opened.stu.rotation = 0) := by
  decide +kernel

theorem witness_TheWinnerIsNextOrUnsequenced :
    (outfeeds none (some (4, 1)) [someGroup] 0).releaseWinner = some (6, false) ∧
    (outfeeds none (some (4, 2)) [someGroup] 7).releaseWinner = some (2, true) ∧
    (outfeeds (some (9, 1)) (some (4, 2)) [someGroup] 7).releaseWinner = none ∧
    (1 ≤ someGroup.next ∧ someGroup.next ≤ someGroup.count + 1 ∧ someGroup.positions.length = someGroup.count) ∧
    (let g : Group := { someGroup with positions := [.void, .released] }
     1 ≤ g.next ∧ g.positions.length = g.count ∧ g.advanced.next = g.count + 1) := by decide +kernel

/-- A number of groups. -/
def grouped (n : Nat) : State :=
  { opened with groups := (List.range n).map (fun i => { someGroup with id := i + 1 }) }

theorem witness_GroupsAreOpenedAndCancelled :
    ((grouped 15).mayTakeRequest = true ∧ (65535 : Nat) ≠ 0 ∧ 1 ≤ (64 : Nat) ∧ (64 : Nat) ≤ 64 ∧
      (grouped 15).group? 65535 = none ∧ (grouped 15).groups.length < 16) ∧
    ((15 : Nat) ≠ 0 ∧ (grouped 15).group? 15 = some { someGroup with id := 15 }) := by decide +kernel

/-- The ACTIVE group 1 with a member in a state, whose id is given, and group 2 with a WAITING member next to be released. -/
def grouping (id : JobId) (js : JobState) : State :=
  reporting 232 (withJob (withJob (grouped 2) { retrieve with id := id, state := js, group := some (1, 1) })
    { retrieve with id := 8, source := .loc (near 4), state := .waiting, waits := { group := true }, group := some (2, 1) })

theorem witness_GroupCancel_members : ∀ id ∈ [2147483647, 2147483648], ∀ js ∈ [JobState.waiting, .ready, .promised, .lead,
      .fetch, .haul, .place, .stranded .fetch],
    let s := grouping id js
    s.mayTakeRequest = true ∧ (s.group? 1).isSome = true ∧ (s.jtb.jobs.map Job.id).Nodup ∧
      (∀ j ∈ s.jtb.jobs, j.group ≠ none → j.kind = .retrieve) ∧
      (s.job? id).map (fun j => (j.state, j.group)) = some (js, some (1, 1)) ∧
      s.hli.reports.length + 4 * s.jtb.jobs.length ≤ 240 ∧ s.activeGroup.map Group.id = some 1 ∧
      (let t := after (.groupCancel 1 (some 1)) s
       t.activeGroup.map (fun n => (n.id, n.next, n.window)) = some (2, 1, 1) ∧
         (t.job? 8).map (fun j => j.waits.group) = some false) := by decide +kernel

/-- Two STORE jobs of aisle 0 before one load. -/
def claiming : State :=
  (withJob (withJob opened { store with state := .waiting, waits := { load := true } })
    { store with id := 8, stamp := 2 }).mapStation 0 (fun x => { x with infeed := [{ tag := 5, mark := false }] })

theorem witness_OnlyTheClaimantIsWithoutLoad :
    let w := Work.start claiming
    (w.st.jtb.jobs.map Job.id).Nodup ∧ (∀ j ∈ w.st.jtb.jobs, j.state = .ready → j.waits.load = false) ∧
      (w.evalClaim 0).st.jtb.jobs.map (fun j => (j.id, j.kind == .store, j.aisle, j.state.unstarted, j.waits.load)) =
        [(7, true, 0, true, false), (8, true, 0, true, true)] ∧ w.st.claimant 0 = some 7 := by decide +kernel

/-- Two STORE jobs of aisle 0, the second with a state and an expected tag, and an infeed's loads. -/
def storing (js : JobState) (tag : Tag) (loads : List InLoad) : State :=
  (withJob (withJob opened { store with expTag := 0, stamp := 2147483647 })
    { store with id := 8, stamp := 2, state := js, expTag := tag }).mapStation 0 (fun x => { x with infeed := loads })

theorem witness_OnlyTheClaimant_isNamed :
    (∀ j ∈ (storing .ready 5 []).jtb.jobs, j.stamp ≤ 2147483647) ∧
    ((storing .ready 5 []).station 0).infeed = [] ∧
    (let loads : List InLoad := [{ tag := 5, mark := false }]
     (∀ js ∈ [JobState.promised, .lead, .fetch, .stranded .fetch], (storing js 5 loads).claimant 0 = some 8) ∧
       (storing .ready 5 loads).claimant 0 = some 8 ∧ (storing .ready 6 loads).claimant 0 = some 7 ∧
       (storing .haul 5 loads).claimant 0 = some 7) ∧
    (let s0 := storing (.stranded .fetch) 5 [{ tag := 5, mark := false }]
     let s : State := { s0 with jtb := { s0.jtb with headTaken := [8] } }
     s.claimant 0 = some 7) ∧
    (let s := (withJob opened store).mapStation 0 (fun x => { x with infeed := [{ tag := 6, mark := false }] })
     (∀ j ∈ s.jtb.jobs, j.expTag ≠ 0 ∧ j.expTag ≠ 6) ∧ s.claimant 0 = none) := by decide +kernel

end Sys2Proof.Tests
end

section
/-! SUPPORT. What an event leaves of the configuration (R11, R77, R172): `State.Steady` and `State.Tame` say it of two states,
and each operation of an event is shown once to keep it. The lemmas of `Work.Tame` are written to be chained in the order in
which an operation's definition is. -/

namespace Sys2Proof.Machine

/-! ## The relation -/

/-- The waiting commands, the input buffer, the configuration of aisles and cranes and the replies given stay; messages are
only added; the location table keeps its canonical form. -/
structure State.Steady (s t : State) : Prop where
  pending : t.pending = s.pending
  rx : t.hli.rx = s.hli.rx
  input : t.hli.input = s.hli.input
  profile : ∀ a, (t.aisle a).profile = (s.aisle a).profile
  ceiling : ∀ a, (t.aisle a).ceiling = (s.aisle a).ceiling
  copy : ∀ a, (t.aisle a).pendingCopy = (s.aisle a).pendingCopy
  role : ∀ c, (t.crane c).role = (s.crane c).role
  sent : s.sent <+: t.sent
  answers : t.answers = s.answers
  wf : s.ltb.wf = true → t.ltb.wf = true

/-- A steady change that writes no locked flag. -/
structure State.Tame (s t : State) : Prop extends State.Steady s t where
  locked : s.ltb.wf = true → ∀ l, (t.loc l).locked = (s.loc l).locked

theorem State.Steady.refl (s : State) : State.Steady s s where
  pending := rfl
  rx := rfl
  input := rfl
  profile _ := rfl
  ceiling _ := rfl
  copy _ := rfl
  role _ := rfl
  sent := List.prefix_refl _
  answers := rfl
  wf h := h

theorem State.Steady.trans {s t u : State} (h : State.Steady s t) (k : State.Steady t u) : State.Steady s u where
  pending := k.pending.trans h.pending
  rx := k.rx.trans h.rx
  input := k.input.trans h.input
  profile a := (k.profile a).trans (h.profile a)
  ceiling a := (k.ceiling a).trans (h.ceiling a)
  copy a := (k.copy a).trans (h.copy a)
  role c := (k.role c).trans (h.role c)
  sent := h.sent.trans k.sent
  answers := k.answers.trans h.answers
  wf hs := k.wf (h.wf hs)

theorem State.Tame.refl (s : State) : State.Tame s s := ⟨.refl s, fun _ _ => rfl⟩

theorem State.Tame.trans {s t u : State} (h : State.Tame s t) (k : State.Tame t u) : State.Tame s u :=
  ⟨h.toSteady.trans k.toSteady, fun hs l => (k.locked (h.wf hs) l).trans (h.locked hs l)⟩

/-! ## The updates of a state -/

/-- A change outside the host link, the aisles, the cranes and the location table. -/
theorem State.Tame.of_parts {s t : State} (hp : t.pending = s.pending) (hh : t.hli = s.hli) (ha : t.aisles = s.aisles)
    (hc : t.cranes = s.cranes) (hs : t.sent = s.sent) (hl : t.ltb = s.ltb) : State.Tame s t where
  pending := hp
  rx := by rw [hh]
  input := by rw [hh]
  profile a := by simp [State.aisle, ha]
  ceiling a := by simp [State.aisle, ha]
  copy a := by simp [State.aisle, ha]
  role c := by simp [State.crane, hc]
  sent := hs ▸ List.prefix_refl s.sent
  answers := by simp [State.answers, hh, hs]
  wf h := by rw [hl]; exact h
  locked _ l := by simp [State.loc, hl]

theorem State.mapCrane_tame (s : State) (c : CraneNo) (f : Crane → Crane) (hf : ∀ x, (f x).role = x.role) :
    State.Tame s (s.mapCrane c f) where
  pending := rfl
  rx := rfl
  input := rfl
  profile _ := rfl
  ceiling _ := rfl
  copy _ := rfl
  role d := State.mapCrane_role s c d f hf
  sent := List.prefix_refl _
  answers := rfl
  wf h := h
  locked _ _ := rfl

/-- A change of an aisle record that keeps its configuration. -/
theorem State.mapAisle_tame (s : State) (a : AisleNo) (f : Aisle → Aisle)
    (hf : ∀ x, (f x).profile = x.profile ∧ (f x).ceiling = x.ceiling ∧ (f x).pendingCopy = x.pendingCopy) :
    State.Tame s (s.mapAisle a f) where
  pending := rfl
  rx := rfl
  input := rfl
  profile b := State.mapAisle_profile s a b f (fun x => (hf x).1)
  ceiling b := State.mapAisle_ceiling s a b f (fun x => (hf x).2.1)
  copy b := State.mapAisle_pendingCopy s a b f (fun x => (hf x).2.2)
  role _ := rfl
  sent := List.prefix_refl _
  answers := rfl
  wf h := h
  locked _ _ := rfl

/-- A message that is no reply. -/
theorem State.sendOut_tame (s : State) (x : Sent) (hx : x.reply? = none) : State.Tame s (s.sendOut x) where
  pending := rfl
  rx := rfl
  input := rfl
  profile _ := rfl
  ceiling _ := rfl
  copy _ := rfl
  role _ := rfl
  sent := ⟨[x], rfl⟩
  answers := by simp [State.answers, hx]
  wf h := h
  locked _ _ := rfl

/-- A change of the host link that leaves what has been received and the replies. -/
theorem State.withHli_tame (s : State) (h : Hli) (hr : h.rx = s.hli.rx) (hi : h.input = s.hli.input)
    (ha : h.replies = s.hli.replies) : State.Tame s { s with hli := h } where
  pending := rfl
  rx := hr
  input := hi
  profile _ := rfl
  ceiling _ := rfl
  copy _ := rfl
  role _ := rfl
  sent := List.prefix_refl _
  answers := by simp [State.answers, ha]
  wf h := h
  locked _ _ := rfl

theorem State.setLoc_steady (s : State) (l : Loc) (r : LocRec) : State.Steady s (s.setLoc l r) where
  pending := rfl
  rx := rfl
  input := rfl
  profile _ := rfl
  ceiling _ := rfl
  copy _ := rfl
  role _ := rfl
  sent := List.prefix_refl _
  answers := rfl
  wf := State.setLoc_wf l r

/-- A record written with the locked flag it has. -/
theorem State.setLoc_tame (s : State) (l : Loc) (r : LocRec) (hr : r.locked = (s.loc l).locked) :
    State.Tame s (s.setLoc l r) where
  toSteady := State.setLoc_steady s l r
  locked hs m := by
    rw [State.setLoc_loc hs]
    split
    · next e => rw [e, hr]
    · rfl

theorem State.feed_tame (s : State) : State.Tame s s.feed := by
  obtain ⟨h, x, e, hr, hi, new, hx⟩ := State.feed_frame s
  have ha := State.feed_answers s
  rw [e] at ha ⊢
  exact { pending := rfl, rx := hr, input := hi, profile := fun _ => rfl, ceiling := fun _ => rfl, copy := fun _ => rfl,
          role := fun _ => rfl, sent := ⟨new, hx.symm⟩, answers := ha, wf := id, locked := fun _ _ => rfl }

/-! ## The same of the work of an event -/

/-- The state of some work differs tamely from that of another. -/
def Work.Tame (w v : Work) : Prop := State.Tame w.st v.st

namespace Work.Tame

theorem refl (w : Work) : w.Tame w := State.Tame.refl w.st

variable {w v u : Work}

theorem trans (h : w.Tame v) (k : v.Tame u) : w.Tame u := State.Tame.trans h k

theorem of_st (h : w.Tame v) (e : u.st = v.st) : w.Tame u := by unfold Work.Tame; rw [e]; exact h

theorem foldl {α : Type} {f : Work → α → Work} (hf : ∀ u x, w.Tame u → w.Tame (f u x)) (h : w.Tame v) (xs : List α) :
    w.Tame (xs.foldl f v) := by
  induction xs generalizing v with
  | nil => exact h
  | cons x xs ih => exact ih (hf v x h)

/-! ### Records, messages and notices -/

theorem onState {f : State → State} (h : w.Tame v) (hf : State.Tame v.st (f v.st)) : w.Tame (v.onState f) :=
  State.Tame.trans h hf

theorem mapCrane (h : w.Tame v) (c : CraneNo) {f : Crane → Crane} (hf : ∀ x, (f x).role = x.role := by intro; rfl) :
    w.Tame (v.mapCrane c f) := h.onState (State.mapCrane_tame _ c f hf)

theorem mapAisle (h : w.Tame v) (a : AisleNo) {f : Aisle → Aisle}
    (hf : ∀ x, (f x).profile = x.profile ∧ (f x).ceiling = x.ceiling ∧ (f x).pendingCopy = x.pendingCopy :=
      by intro; exact ⟨rfl, rfl, rfl⟩) : w.Tame (v.mapAisle a f) := h.onState (State.mapAisle_tame _ a f hf)

theorem mapStation (h : w.Tame v) (a : AisleNo) (f : Station → Station) : w.Tame (v.mapStation a f) :=
  h.onState (.of_parts rfl rfl rfl rfl rfl rfl)

theorem mapJob (h : w.Tame v) (id : JobId) (f : Job → Job) : w.Tame (v.mapJob id f) :=
  h.onState (.of_parts rfl rfl rfl rfl rfl rfl)

theorem mapRun (h : w.Tame v) (id : RunId) (f : Run → Run) : w.Tame (v.mapRun id f) :=
  h.onState (.of_parts rfl rfl rfl rfl rfl rfl)

theorem setClaim (h : w.Tame v) (c : CraneNo) (x : Option Span) : w.Tame (v.onState (·.setClaim c x)) :=
  h.onState (.of_parts rfl rfl rfl rfl rfl rfl)

theorem order (h : w.Tame v) (c : CraneNo) (o : CraneOrder) : w.Tame (v.order c o) :=
  h.onState (State.sendOut_tame _ _ rfl)

theorem stationOrder (h : w.Tame v) (o : StationOrder) : w.Tame (v.stationOrder o) :=
  h.onState (State.sendOut_tame _ _ rfl)

theorem report (h : w.Tame v) (r : Report) : w.Tame (v.report r) :=
  h.onState (State.withHli_tame _ _ (by simp) (by simp) (by simp))

theorem reportCraneAs (h : w.Tame v) (c : CraneNo) (fault : Option FaultCause) (n u : Bool) :
    w.Tame (v.reportCraneAs c fault n u) := h.report _

theorem reportCrane (h : w.Tame v) (c : CraneNo) : w.Tame (v.reportCrane c) := h.report _

theorem reportAisle (h : w.Tame v) (a : AisleNo) (k : Option StartFailure) : w.Tame (v.reportAisle a k) := h.report _

theorem noticeReady (h : w.Tame v) (id : JobId) (a : AisleNo) : w.Tame (v.noticeReady id a) := h
theorem noticeAvail (h : w.Tame v) (a : AisleNo) : w.Tame (v.noticeAvail a) := h
theorem mark (h : w.Tame v) (c : CraneNo) : w.Tame (v.mark c) := h
theorem evalAisle (h : w.Tame v) (a : AisleNo) : w.Tame (v.evalAisle a) := h
theorem claimDue (h : w.Tame v) (a : AisleNo) : w.Tame (v.claimDue a) := h
theorem closeDue (h : w.Tame v) (a : AisleNo) : w.Tame (v.closeDue a) := h
theorem startDue (h : w.Tame v) (a : AisleNo) : w.Tame (v.startDue a) := h
theorem askRelease (h : w.Tame v) : w.Tame v.askRelease := h
theorem roomNotice (h : w.Tame v) (a : AisleNo) : w.Tame (v.roomNotice a) := h.of_st (by simp)
theorem reach (h : w.Tame v) (t : Ms) : w.Tame (v.reach t) := h.onState (.of_parts rfl rfl rfl rfl rfl rfl)

/-! ### Crane states, spans and deadlines -/

theorem enterQuiet (h : w.Tame v) (c : CraneNo) (st : CraneState) : w.Tame (v.enterQuiet c st) := by
  have h1 := h.mapCrane c (f := fun x => { x with state := st, idleSince := if st = .idle then some v.st.now else none })
  exact h1.of_st (Work.enterQuiet_st v c st)

theorem enterAs (h : w.Tame v) (c : CraneNo) (st : CraneState) (fault : Option FaultCause) :
    w.Tame (v.enterAs c st fault) := by
  unfold Work.enterAs
  simp only
  split
  · exact (h.enterQuiet c st).reportCraneAs c fault _ _
  · exact h.enterQuiet c st

theorem enter (h : w.Tame v) (c : CraneNo) (st : CraneState) : w.Tame (v.enter c st) := h.enterAs c st _

theorem setSpan (h : w.Tame v) (c : CraneNo) (sp : Span) : w.Tame (v.setSpan c sp) :=
  (h.mapCrane c (f := fun x => { x with span := some sp })).of_st (Work.setSpan_st v c sp)

theorem shrinkSpan (h : w.Tame v) (c : CraneNo) (sp : Span) : w.Tame (v.shrinkSpan c sp) :=
  (h.mapCrane c (f := fun x => { x with span := some sp })).of_st (Work.shrinkSpan_st v c sp)

theorem arm (h : w.Tame v) (c : CraneNo) (e : Ms) : w.Tame (v.arm c e) := h.mapCrane c
theorem disarm (h : w.Tame v) (c : CraneNo) : w.Tame (v.disarm c) := h.mapCrane c
theorem sendStop (h : w.Tame v) (c : CraneNo) : w.Tame (v.sendStop c) := (h.mapCrane c).order c .stop

theorem dropClaim (h : w.Tame v) (c : CraneNo) : w.Tame (v.dropClaim c) := by
  unfold Work.dropClaim
  split
  · simp only
    split
    · exact (h.setClaim c none).evalAisle _
    · exact h.setClaim c none
  · exact h

/-! ### Wait reasons -/

theorem makeReady (h : w.Tame v) (id : JobId) : w.Tame (v.makeReady id) := by
  unfold Work.makeReady
  split
  · exact (h.mapJob id _).noticeReady id _
  · exact h

theorem addWait (h : w.Tame v) (id : JobId) (r : Reason) : w.Tame (v.addWait id r) := h.mapJob id _

theorem delWait (h : w.Tame v) (id : JobId) (r : Reason) : w.Tame (v.delWait id r) := by
  rcases v.delWait_cases id r with e | ⟨j, _, _, _, e | e⟩
  · exact h.of_st e
  · exact (h.mapJob id _).of_st e
  · exact ((h.mapJob id _).mapJob id _).of_st e

theorem placeWait (h : w.Tame v) (id : JobId) (r : Reason) (b : Bool) : w.Tame (v.placeWait id r b) := h.mapJob id _

theorem reserve (h : w.Tame v) (j : Job) : w.Tame (v.reserve j) := by
  unfold Work.reserve
  split
  · exact h.mapStation _ _
  · exact h

theorem unreserve (h : w.Tame v) (j : Job) : w.Tame (v.unreserve j) := by
  unfold Work.unreserve
  split
  · exact (h.mapStation _ _).roomNotice _
  · exact h

theorem returnReady (h : w.Tame v) (id : JobId) : w.Tame (v.returnReady id) := by
  unfold Work.returnReady
  split
  · next j _ =>
    have hr := ((h.unreserve j).mapJob id (fun x => { x with crane := none })).makeReady id
    simp only
    split
    · exact hr.claimDue _
    · exact hr
  · exact h

/-! ### Locations -/

/-- An occupancy written, with the locked flag kept. -/
theorem setOcc (h : w.Tame v) (l : Loc) (o : Occ) :
    w.Tame (v.onState (fun s => s.setLoc l { s.loc l with occ := o })) := h.onState (State.setLoc_tame _ l _ rfl)

theorem writeOcc (h : w.Tame v) (l : Loc) (o : Occ) : w.Tame (v.writeOcc l o) :=
  (h.setOcc l o).of_st (Work.writeOcc_st v l o)

theorem createClearance (h : w.Tame v) (parent : JobId) : w.Tame (v.createClearance parent) := by
  unfold Work.createClearance
  split
  · exact h
  · split
    · exact h
    · split
      · exact h
      · refine makeReady (setOcc (h.onState ?_) _ _) _
        exact .of_parts rfl rfl rfl rfl rfl rfl

theorem requestClearance (h : w.Tame v) (parent : JobId) : w.Tame (v.requestClearance parent) := by
  rcases v.requestClearance_cases parent with ⟨e, _⟩ | ⟨e, _⟩ | ⟨e, _⟩
  · rw [e]; exact h
  · rw [e]; exact h.createClearance parent
  · exact State.Tame.trans h (by rw [e]; exact .of_parts rfl rfl rfl rfl rfl rfl)

theorem serveClearance (h : w.Tame v) (xs : List JobId) : w.Tame (v.serveClearance xs) := by
  induction xs with
  | nil => exact h.onState (.of_parts rfl rfl rfl rfl rfl rfl)
  | cons p rest ih =>
    unfold Work.serveClearance
    split
    · refine createClearance (h.onState ?_) p
      exact .of_parts rfl rfl rfl rfl rfl rfl
    · exact ih

theorem retryClearance (h : w.Tame v) : w.Tame v.retryClearance := by
  unfold Work.retryClearance
  split
  · exact h.serveClearance _
  · exact h

theorem retestFar (h : w.Tame v) (near : Loc) : w.Tame (v.retestFar near) := by
  unfold Work.retestFar
  split
  · next k _ =>
    split
    · exact h
    · split
      · split
        · exact h.delWait k _
        · simp only
          split
          · exact (h.addWait k _).requestClearance k
          · exact h.addWait k _
      · exact h
  · exact h

theorem retestParent (h : w.Tame v) (j : Job) : w.Tame (v.retestParent j) := by
  unfold Work.retestParent
  split
  · split
    · exact h.retestFar _
    · exact h
  · exact h

theorem clearDepth (h : w.Tame v) (near : Loc) : w.Tame (v.clearDepth near) := by
  unfold Work.clearDepth
  split
  · exact h.delWait _ _
  · exact h

theorem depthCheck (h : w.Tame v) (l : Loc) (old : Option JobId) : w.Tame (v.depthCheck l old) := by
  unfold Work.depthCheck
  split
  · split
    · exact h.clearDepth _
    · exact h.retestFar _
  · exact h

theorem writeOccs (h : w.Tame v) (xs : List (Loc × Occ)) : w.Tame (v.writeOccs xs) := by
  unfold Work.writeOccs
  exact (h.foldl (fun _ x hu => hu.writeOcc x.1 x.2) xs).foldl (fun _ x hu => hu.depthCheck x.1 x.2) _

theorem farNotices (h : w.Tame v) (ls : List Loc) : w.Tame (v.farNotices ls) := by
  unfold Work.farNotices
  refine h.foldl (fun u l hu => ?_) ls
  split
  · exact hu.noticeAvail _
  · exact hu

theorem releaseLocs (h : w.Tame v) (j : Job) (rel : Release) : w.Tame (v.releaseLocs j rel) :=
  (h.writeOccs _).farNotices _

theorem releaseDest (h : w.Tame v) (j : Job) : w.Tame (v.releaseDest j) := by
  unfold Work.releaseDest
  split
  · split
    · split
      · exact h.writeOccs _
      · exact h
    · exact h
  · exact h

theorem takePlace (h : w.Tame v) (id : JobId) (l : Loc) (tag : Tag) : w.Tame (v.takePlace id l tag) :=
  (h.writeOcc l _).mapJob id _

/-! ### Stations, groups and runs -/

theorem evalClaim (h : w.Tame v) (a : AisleNo) : w.Tame (v.evalClaim a) := by
  unfold Work.evalClaim
  refine h.foldl (fun u j hu => ?_) _
  split
  · exact hu.delWait _ _
  · exact hu.addWait _ _

theorem retestGroup (h : w.Tame v) (gid : GroupId) : w.Tame (v.retestGroup gid) := by
  unfold Work.retestGroup
  split
  · exact h
  · refine h.foldl (fun u j hu => ?_) _
    split
    · split
      · exact hu.delWait _ _
      · exact hu
    · exact hu

/-- A change of the group records. -/
theorem setGroups (h : w.Tame v) (f : State → List Group) : w.Tame (v.onState (fun s => { s with groups := f s })) :=
  h.onState (.of_parts rfl rfl rfl rfl rfl rfl)

theorem removeGroup (h : w.Tame v) (gid : GroupId) : w.Tame (v.removeGroup gid) := by
  have hr := h.setGroups (fun s => s.groups.filter (fun g => g.id != gid))
  unfold Work.removeGroup
  simp only
  split
  · split
    · exact hr.retestGroup _
    · exact hr
  · exact hr

theorem endGroupIfDone (h : w.Tame v) (gid : GroupId) : w.Tame (v.endGroupIfDone gid) := by
  unfold Work.endGroupIfDone
  split
  · exact h
  · split
    · exact ((h.report _).removeGroup gid).askRelease
    · exact h

theorem mapGroup (h : w.Tame v) (gid : GroupId) (f : Group → Group) : w.Tame (v.onState (fun s => s.mapGroup gid f)) :=
  h.onState (.of_parts rfl rfl rfl rfl rfl rfl)

theorem groupChanged (h : w.Tame v) (gid : GroupId) : w.Tame (v.groupChanged gid) :=
  (((h.mapGroup gid Group.advanced).retestGroup gid).endGroupIfDone gid).askRelease

theorem setPosition (h : w.Tame v) (gid : GroupId) (k : Nat) (p : Position) : w.Tame (v.setPosition gid k p) :=
  (h.mapGroup gid _).groupChanged gid

theorem memberPlaced (h : w.Tame v) (j : Job) : w.Tame (v.memberPlaced j) := by
  unfold Work.memberPlaced
  split
  · exact h.setPosition _ _ _
  · exact h

theorem memberEnded (h : w.Tame v) (j : Job) (o : JobOutcome) (k : Option JobCause) : w.Tame (v.memberEnded j o k) := by
  unfold Work.memberEnded
  split
  · exact h
  · split
    · exact h.setPosition _ _ _
    · split
      · exact h
      · exact h.setPosition _ _ _

/-- A change of the run unit. -/
theorem setRnu (h : w.Tame v) (f : State → Rnu) : w.Tame (v.onState (fun s => { s with rnu := f s })) :=
  h.onState (.of_parts rfl rfl rfl rfl rfl rfl)

theorem finishRun (h : w.Tame v) (id : RunId) : w.Tame (v.finishRun id) := by
  unfold Work.finishRun
  split
  · exact h
  · exact (h.report _).setRnu _

theorem stopRun (h : w.Tame v) (id : RunId) (cause : RunCause) : w.Tame (v.stopRun id cause) := by
  unfold Work.stopRun
  split
  · exact h
  · next r _ =>
    have hm := h.mapRun id (fun x => { x with cause := some cause })
    split
    · exact h
    · simp only
      cases r.group with
      | none => exact hm.of_st (by split <;> rfl)
      | some g => exact ((hm.mapGroup g.id _).groupChanged g.id).of_st (by split <;> rfl)

theorem popInfeed (h : w.Tame v) (j : Job) (mark : Bool) : w.Tame (v.popInfeed j mark) := by
  unfold Work.popInfeed
  split
  · exact h
  · split
    · exact h
    · next rest _ =>
      have hm := (h.mapStation j.aisle (fun x => { x with infeed := rest })).claimDue j.aisle
      simp only
      split
      · split
        · exact hm.stopRun _ _
        · exact hm
      · exact hm

/-! ### Admission and the end of a job -/

/-- A change of the job table's block. -/
theorem setJtb (h : w.Tame v) (f : State → Jtb) : w.Tame (v.onState (fun s => { s with jtb := f s })) :=
  h.onState (.of_parts rfl rfl rfl rfl rfl rfl)

theorem reserveLocs (h : w.Tame v) (j : Job) : w.Tame (v.reserveLocs j) := by
  unfold Work.reserveLocs
  extract_lets taken
  have ht : w.Tame taken := by
    unfold taken
    split
    · split
      · exact h.writeOcc _ _
      · exact h
    · exact h
  split
  · exact ht.writeOcc _ _
  · exact ht

theorem admitJob (h : w.Tame v) (j : Job) (d : DepthWaits) : w.Tame (v.admitJob j d) := by
  unfold Work.admitJob
  extract_lets waits joined reserved placed claimed readied
  have h1 : w.Tame joined := h.onState (.of_parts rfl rfl rfl rfl rfl rfl)
  have h2 : w.Tame reserved := h1.reserveLocs j
  have h3 : w.Tame placed := by
    unfold placed
    split
    · exact h2.setPosition _ _ _
    · exact h2
  have h4 : w.Tame claimed := by
    unfold claimed
    split
    · exact h3.evalClaim _
    · exact h3
  have h5 : w.Tame readied := by
    unfold readied
    split
    · exact h4.makeReady _
    · exact h4
  split
  · exact h5.requestClearance _
  · exact h5

theorem countChild (h : w.Tame v) (j : Job) (o : JobOutcome) : w.Tame (v.countChild j o) := by
  unfold Work.countChild
  split
  · exact h
  · next rid _ =>
    extract_lets counted
    have hc : w.Tame counted := h.mapRun rid _
    split
    · split
      · exact hc.stopRun _ _
      · exact hc
    · exact hc

theorem dropCraneJob (h : w.Tame v) (j : Job) : w.Tame (v.dropCraneJob j) := by
  unfold Work.dropCraneJob
  split
  · exact h
  · split
    · exact (h.mapCrane _).closeDue _
    · exact h

theorem reportEnd (h : w.Tame v) (j : Job) (o : JobOutcome) (k : Option JobCause) (final : Option Loc) :
    w.Tame (v.reportEnd j o k final) := by
  unfold Work.reportEnd
  extract_lets parent told
  have ht : w.Tame told := by
    unfold told
    split
    · exact h.report _
    · exact h
  split
  · exact h.report _
  · exact ht.report _

theorem endRunIfDone (h : w.Tame v) (j : Job) : w.Tame (v.endRunIfDone j) := by
  unfold Work.endRunIfDone
  split
  · exact h
  · split
    · exact h
    · split
      · split
        · exact h
        · exact h.finishRun _
      · exact h

theorem freeJob (h : w.Tame v) (j : Job) : w.Tame (v.onState (fun s => s.freeJob j)) :=
  h.onState (.of_parts rfl rfl rfl rfl rfl rfl)

theorem endJob (h : w.Tame v) (id : JobId) (o : JobOutcome) (k : Option JobCause) (rel : Release) (final : Option Loc) :
    w.Tame (v.endJob id o k rel final) := by
  unfold Work.endJob
  split
  · exact h
  · next j _ =>
    have h1 := (((h.mapJob id (fun x => { x with state := .ended })).releaseLocs j rel).retestParent j).unreserve j
    have h2 := (((h1.memberEnded j o k).countChild j o).dropCraneJob j).reportEnd j o k final
    have h3 := ((h2.endRunIfDone j).freeJob j).retryClearance
    simp only
    split
    · exact h3.claimDue j.aisle
    · exact h3

/-! ### Cancels -/

theorem cancelHold (h : w.Tame v) (id : JobId) (c : CraneNo) (b : CancelBy) : w.Tame (v.cancelHold id c b) :=
  (h.endJob id _ _ _ _).enter c .idle

theorem startAbort (h : w.Tame v) (id : JobId) (c : CraneNo) (b : CancelBy) : w.Tame (v.startAbort id c b) :=
  ((h.mapJob id _).mapCrane c).order c .abort

theorem cancelClearance (h : w.Tame v) (j : Job) (b : CancelBy) : w.Tame (v.cancelClearance j b) := by
  unfold Work.cancelClearance
  split
  · exact h.endJob _ _ _ _ _
  · split
    · split
      · exact h.cancelHold _ _ _
      · split
        · exact h.startAbort _ _ _
        · exact h
    · exact h

theorem cancelUnstarted (h : w.Tame v) (id : JobId) (b : CancelBy) : w.Tame (v.cancelUnstarted id b) := by
  unfold Work.cancelUnstarted
  extract_lets child ended
  have he : w.Tame ended := h.endJob id _ _ _ _
  cases child with
  | some k => exact he.cancelClearance k b
  | none => exact he

/-! ### Spawning -/

theorem movePointer (h : w.Tame v) (r : Run) (l : Loc) : w.Tame (v.movePointer r l) := by
  have hm := h.mapRun r.id (fun x => { x with pointer := r.nextPointer (v.st.prof r.aisle) l })
  unfold Work.movePointer
  simp only
  split
  · exact hm.stopRun _ _
  · exact hm

theorem spawn (h : w.Tame v) (r : Run) (l : Loc) (d : DepthWaits) : w.Tame (v.spawn r l d) := by
  unfold Work.spawn
  extract_lets id counted given admitted
  have h1 : w.Tame given := (h.mapRun r.id _).onState (.of_parts rfl rfl rfl rfl rfl rfl)
  have h2 : w.Tame admitted := h1.admitJob _ d
  split
  · exact h2.stopRun _ _
  · exact h2.movePointer r l

theorem skip (h : w.Tame v) (r : Run) (l : Loc) : w.Tame (v.skip r l) := (h.mapRun r.id _).movePointer r l

theorem visits (n : Nat) (h : w.Tame v) (id : RunId) : w.Tame (Work.visits n v id).1 := by
  induction n generalizing v with
  | zero => exact h
  | succ n ih =>
    unfold Work.visits
    split
    · exact h
    · split
      · exact h
      · split
        · split
          · exact h.spawn _ _ _
          · exact ih (h.skip _ _)
        · exact h

theorem setMarker (h : w.Tame v) (id : RunId) : w.Tame (v.setMarker id) := h.setRnu _

theorem fillRun (n : Nat) (h : w.Tame v) (id : RunId) : w.Tame (Work.fillRun n v id) := by
  induction n generalizing v with
  | zero => exact h
  | succ n ih =>
    have hv := visits visitFuel h id
    unfold Work.fillRun
    split
    · next u e => rw [e] at hv; exact ih (hv.setMarker id)
    · next u e => rw [e] at hv; exact hv

theorem ringRound (ids : List RunId) (h : w.Tame v) (any : Bool) : w.Tame (Work.ringRound ids v any).1 := by
  induction ids generalizing v any with
  | nil => exact h
  | cons id rest ih =>
    have hv := visits visitFuel h id
    unfold Work.ringRound
    split
    · next u e => rw [e] at hv; exact ih (hv.setMarker id) true
    · next u e => rw [e] at hv; exact ih hv any

theorem ringRounds (n : Nat) (h : w.Tame v) (ring : List RunId) : w.Tame (Work.ringRounds n v ring) := by
  induction n generalizing v with
  | zero => exact h
  | succ n ih =>
    have hr := ringRound ring h false
    unfold Work.ringRounds
    split
    · next u e => rw [e] at hr; exact ih hr
    · next u e => rw [e] at hr; exact hr

theorem spawnAll (h : w.Tame v) : w.Tame v.spawnAll := ringRounds 8 h _

/-! ### What stops an aisle's cranes -/

theorem adopt (h : w.Tame v) (a : AisleNo) : w.Tame (v.adopt a) := (h.mapAisle a).report _

theorem leaveOpen (h : w.Tame v) (a : AisleNo) : w.Tame (v.leaveOpen a) := by
  unfold Work.leaveOpen
  split
  · exact h.adopt a
  · exact h

theorem setProving (h : w.Tame v) (f : State → Proving) (c : CraneNo) :
    w.Tame (v.onState (fun s => s.setProving c (f s))) := h.onState (.of_parts rfl rfl rfl rfl rfl rfl)

theorem abandonProving (h : w.Tame v) (c : CraneNo) : w.Tame (v.abandonProving c) := h.setProving _ c

theorem setLink (h : w.Tame v) (c : CraneNo) (l : Link) : w.Tame (v.setLink c l) := by
  unfold Work.setLink
  split
  · exact h
  · exact (h.mapCrane c).reportCrane c

theorem goOffline (h : w.Tame v) (c : CraneNo) (fault : Option FaultCause) : w.Tame (v.goOffline c fault) :=
  ((h.setClaim c none).mapCrane c).enterAs c .offline fault

theorem failFull (h : w.Tame v) (a : AisleNo) (k : StartFailure) : w.Tame (v.failFull a k) := by
  unfold Work.failFull
  extract_lets present abandoned stopped offline
  have h1 : w.Tame abandoned := h.foldl (fun u c hu => by
    extract_lets u'
    split
    · exact hu.abandonProving c
    · exact (hu.abandonProving c).setLink c _) present
  have h2 : w.Tame stopped := h1.foldl (fun u c hu => by
    split
    · exact hu.sendStop c
    · exact hu) present
  have h3 : w.Tame offline := h2.foldl (fun u c hu => by
    split
    · exact hu
    · exact hu.goOffline c _) present
  exact (h3.mapAisle a).reportAisle a _

theorem strand (h : w.Tame v) (id : JobId) (ph : Phase) : w.Tame (v.strand id ph) := h.mapJob id _

theorem clearCraneJob (h : w.Tame v) (c : CraneNo) : w.Tame (v.clearCraneJob c) := (h.mapCrane c).closeDue _

theorem returnLead (h : w.Tame v) (c : CraneNo) (j : Job) : w.Tame (v.returnLead c j) := by
  unfold Work.returnLead
  split
  · exact (h.endJob _ _ _ _ _).clearCraneJob c
  · exact (h.returnReady _).clearCraneJob c

theorem stopJob (h : w.Tame v) (c : CraneNo) : w.Tame (v.stopJob c) := by
  unfold Work.stopJob
  split
  · exact h
  · split
    · exact h.returnLead c _
    · exact h.strand _ _
    · exact h.strand _ _
    · exact h.strand _ _
    · exact h

theorem returnPromised (h : w.Tame v) (k : Option JobId) : w.Tame (v.returnPromised k) := by
  cases k with
  | none => exact h
  | some id => exact h.returnReady id

theorem stopCrane (h : w.Tame v) (c : CraneNo) : w.Tame (v.stopCrane c) :=
  (((h.setClaim c none).mapCrane c).sendStop c).enterQuiet c .stopped

theorem stopOffline (h : w.Tame v) (c : CraneNo) : w.Tame (v.stopOffline c) := (h.abandonProving c).mapCrane c

theorem lockout (h : w.Tame v) (a : AisleNo) (resume : StartKind) (k : Option StartFailure) :
    w.Tame (v.lockout a resume k) := by
  unfold Work.lockout
  extract_lets left locked before stopped freed told
  have h1 : w.Tame locked := (h.leaveOpen a).mapAisle a
  have h2 : w.Tame stopped := h1.foldl (fun u x hu => by
    split
    · exact hu.stopOffline _
    · exact hu.stopCrane _) before
  have h3 : w.Tame freed := h2.foldl (fun u x hu => (hu.returnPromised _).stopJob _) before
  have h4 : w.Tame told := h3.reportAisle a k
  exact h4.foldl (fun u x hu => by
    split
    · exact hu.reportCrane _
    · exact hu) before

/-! ### Orders, faults and places -/

theorem sendCycle (h : w.Tame v) (c : CraneNo) (j : Job) : w.Tame (v.sendCycle c j) :=
  (((h.setSpan c _).order c _).arm c _).enter c .lead

theorem sendMove (h : w.Tame v) (c : CraneNo) (t : Nat) (why : Purpose) : w.Tame (v.sendMove c t why) :=
  ((((h.setSpan c _).order c _).arm c _).mapCrane c).enter c .move

theorem sendReference (h : w.Tame v) (c : CraneNo) : w.Tame (v.sendReference c) := by
  unfold Work.sendReference
  extract_lets p x rb spanned armed
  have hs : w.Tame spanned := by
    unfold spanned
    split
    · exact h.setSpan c _
    · exact h
  have ha : w.Tame armed := (hs.order c .reference).arm c _
  exact (ha.mapCrane c).enter c .reference

theorem sendPlaceAgain (h : w.Tame v) (c : CraneNo) (id : JobId) (d : Place) : w.Tame (v.sendPlaceAgain c id d) :=
  (((((h.setSpan c _).order c _).arm c _).mapCrane c).enter c .place).mapJob id _

theorem waitPlace (h : w.Tame v) (c : CraneNo) (id : JobId) (r : Reason) : w.Tame (v.waitPlace c id r) := by
  unfold Work.waitPlace
  extract_lets p shrunk waits
  have hs : w.Tame shrunk := by
    unfold shrunk
    split
    · exact h.shrinkSpan c _
    · exact h
  have hw : w.Tame waits := ((hs.disarm c).mapCrane c).enter c .place
  exact (hw.mapJob id _).placeWait id r true

theorem endHold (h : w.Tame v) (c : CraneNo) : w.Tame (v.endHold c) := by
  unfold Work.endHold
  split
  · split
    · exact ((h.returnReady _).clearCraneJob c).enter c .idle
    · exact h
  · exact h

theorem failStart (h : w.Tame v) (c : CraneNo) (k : FaultCause) : w.Tame (v.failStart c k) := by
  unfold Work.failStart
  extract_lets a
  split
  · exact h
  · split
    · exact h.failFull a _
    · exact h.lockout a _ _
    · exact h

theorem freeze (h : w.Tame v) (c : CraneNo) : w.Tame (v.freeze c) := by
  unfold Work.freeze
  refine dropClaim ?_ c
  split
  · exact h.setSpan c _
  · exact h

theorem fault (h : w.Tame v) (c : CraneNo) (k : FaultCause) : w.Tame (v.fault c k) := by
  unfold Work.fault
  extract_lets x frozen stopped cleared entered held
  have h1 : w.Tame frozen := (h.freeze c).mapCrane c
  have h2 : w.Tame stopped := ((h1.returnPromised _).sendStop c).stopJob c
  have h3 : w.Tame cleared := by
    unfold cleared
    split
    · exact h2.clearCraneJob c
    · exact h2
  have h4 : w.Tame entered := h3.enter c .faulted
  have h5 : w.Tame held := by
    unfold held
    split
    · exact h4.endHold _
    · exact h4
  exact h5.failStart c k

theorem noteMismatch (h : w.Tame v) (id : JobId) : w.Tame (v.noteMismatch id) := h.setJtb _
theorem noteTarget (h : w.Tame v) (id : JobId) : w.Tame (v.noteTarget id) := h.setJtb _
theorem noteHead (h : w.Tame v) (id : JobId) : w.Tame (v.noteHead id) := h.setJtb _

theorem replace (h : w.Tame v) (c : CraneNo) (id : JobId) (tag : Tag) : w.Tame (v.replace c id tag) := by
  unfold Work.replace
  split
  · exact (h.takePlace id _ tag).sendPlaceAgain c id _
  · exact (h.mapJob id _).waitPlace c id _

theorem wrongTag (h : w.Tame v) (c : CraneNo) (j : Job) (tag : Tag) : w.Tame (v.wrongTag c j tag) := by
  have hr := (h.noteMismatch j.id).releaseDest j
  unfold Work.wrongTag
  simp only
  split
  · exact hr.sendPlaceAgain c _ _
  · exact (hr.mapJob _ _).replace c _ _

theorem retryBlocked (h : w.Tame v) (c : CraneNo) : w.Tame (v.retryBlocked c) := by
  unfold Work.retryBlocked
  extract_lets x
  split
  · exact h
  · split
    · exact (h.placeWait _ _ _).sendPlaceAgain c _ _
    · exact h

/-! ### Stranded jobs -/

theorem sendCarry (h : w.Tame v) (c : CraneNo) (id : JobId) (d : Place) : w.Tame (v.sendCarry c id d) :=
  (((((h.setSpan c _).order c _).arm c _).mapCrane c).enter c .haul).mapJob id _

theorem tryCarry (h : w.Tame v) (c : CraneNo) : w.Tame (v.tryCarry c) := by
  unfold Work.tryCarry
  extract_lets pend
  have hp : w.Tame pend := h.mapCrane c
  split
  · exact h
  · split
    · split
      · split
        · exact h.sendCarry c _ _
        · split
          · exact hp.sendMove _ _ _
          · exact hp
        · exact hp
      · exact hp
    · exact hp

theorem carryToPlace (h : w.Tame v) (c : CraneNo) (id : JobId) (tag : Tag) : w.Tame (v.carryToPlace c id tag) := by
  unfold Work.carryToPlace
  split
  · exact (h.takePlace id _ tag).tryCarry c
  · exact (h.mapJob id _).fault c _

theorem resolveLoaded (h : w.Tame v) (c : CraneNo) (j : Job) (read : Tag) : w.Tame (v.resolveLoaded c j read) := by
  unfold Work.resolveLoaded
  extract_lets own read' popped wrong
  have h1 : w.Tame popped := by
    unfold popped
    split
    · exact ((h.mapJob j.id _).popInfeed j true).noteHead _
    · exact h.mapJob j.id _
  have h2 : w.Tame wrong := ((h1.noteMismatch j.id).releaseDest j).mapJob j.id _
  split
  · exact h2.carryToPlace c _ _
  · split
    · exact h1.tryCarry c
    · exact h1.carryToPlace c _ _

theorem unfetch (h : w.Tame v) (j : Job) : w.Tame (v.unfetch j) := by
  have hf := h.setJtb (fun s => s.jtb.forget j.id)
  unfold Work.unfetch
  simp only
  split
  · exact (hf.releaseDest j).mapJob j.id _
  · exact hf

theorem resolve (h : w.Tame v) (c : CraneNo) (j : Job) (sensed : Bool) (read : Tag) :
    w.Tame (v.resolve c j sensed read) := by
  unfold Work.resolve Work.resolveEmpty
  split
  · exact h.resolveLoaded c j read
  · split
    · exact (((h.unfetch j).returnReady j.id).clearCraneJob c).enter c .idle
    · exact (h.endJob j.id _ _ _ _).enter c .idle

theorem cancelStranded (h : w.Tame v) (j : Job) : w.Tame (v.cancelStranded j) := by
  have he := h.endJob j.id .cancelled (some .strandedCancel) .lost none
  unfold Work.cancelStranded
  simp only
  split
  · exact he
  · next c _ =>
    have hc := he.mapCrane c (f := fun x => { x with load := .unknown })
    split
    · exact hc.fault c _
    · exact hc

/-! ### The aisle life cycle -/

theorem sendProbe (h : w.Tame v) (c : CraneNo) (errors frame : Nat) : w.Tame (v.sendProbe c errors frame) :=
  (h.setProving _ c).order c _

theorem startProving (h : w.Tame v) (c : CraneNo) : w.Tame (v.startProving c) := h.sendProbe c 0 0

theorem beginFull (h : w.Tame v) (a : AisleNo) : w.Tame (v.beginFull a) := by
  unfold Work.beginFull
  extract_lets starting present linked told
  have h1 : w.Tame starting := h.mapAisle a
  have h2 : w.Tame linked := h1.foldl (fun u c hu => hu.setLink c _) present
  have h3 : w.Tame told := h2.reportAisle a none
  exact h3.foldl (fun u c hu => by
    split
    · exact hu
    · exact hu.startProving c) present

theorem startReference (h : w.Tame v) (c : CraneNo) : w.Tame (v.startReference c) := by
  unfold Work.startReference
  split
  · exact h
  · exact h.sendReference c

theorem endProving (h : w.Tame v) (a : AisleNo) : w.Tame (v.endProving a) := by
  unfold Work.endProving
  split
  · have ht := (h.mapAisle a (f := fun x => { x with start := x.start.map (fun st => { st with phase := .referencing }) })
      ).reportAisle a none
    exact ht.foldl (fun u c hu => hu.startReference c) _
  · exact h

theorem afterFrame (h : w.Tame v) (c : CraneNo) (frame errors : Nat) : w.Tame (v.afterFrame c frame errors) := by
  unfold Work.afterFrame
  split
  · exact ((h.abandonProving c).setLink c _).failFull _ _
  · split
    · exact ((h.abandonProving c).setLink c _).endProving _
    · exact h.sendProbe c _ _

theorem endOfWait (h : w.Tame v) (c : CraneNo) : w.Tame (v.endOfWait c) := by
  unfold Work.endOfWait
  split
  · exact h
  · split
    · split
      · exact h.startProving c
      · exact h
    · split
      · exact h.sendReference c
      · exact h

/-! ### The end of an event -/

theorem promise (h : w.Tame v) (k : Job) (c : CraneNo) (cl : Span) : w.Tame (v.promise k c cl) :=
  (((h.mapJob k.id _).setClaim c _).mapCrane c).order c _

/-- Every small action of the end of an event is tame. -/
theorem settles (h : w.Tame v) (k : Work.Settles v u) : w.Tame u := by
  cases k with
  | notice e => exact h.of_st e
  | addLoad id => exact h.addWait id _
  | unload id j hj hs => exact h.mapJob id _
  | ready id j hj hs => exact h.mapJob id _
  | reference c hc => exact h.sendReference c
  | carry c j d hc hp hj hd => exact h.sendCarry c _ d
  | pend c hc hp => exact h.mapCrane c
  | yields c t hc => exact h.sendMove c t _
  | unblock c id hc hl hj => exact h.placeWait id _ _
  | take id l tag he hu hw => exact h.takePlace id l tag
  | again c id l hc hl hj => exact h.sendPlaceAgain c id _
  | adopt a hm => exact h.adopt a
  | lead c j hc hj hs => exact (h.mapJob j.id _).mapCrane c
  | reserved a id => exact h.mapStation a _
  | cycle c j hc => exact h.sendCycle c j
  | hold c hc => exact h.enter c .hold
  | pointers a st => exact h.mapAisle a (fun x => ⟨(x.stepped_kept st).1, (x.stepped_kept st).2.1, (x.stepped_kept st).2.2.1⟩)
  | promise k c cl hc ho hk hs => exact h.promise k c cl
  | opened a ha hd => exact (h.mapAisle a).reportAisle a none
  | offline c ha hc => exact h.goOffline c none
  | closed a ha => exact (h.mapAisle a).reportAisle a none
  | release a u hm hw =>
    exact ((h.stationOrder (.release a)).mapStation a _).onState (.of_parts rfl rfl rfl rfl rfl rfl)
  | runEnd id r hr => exact (h.report _).setRnu _
  | free hf => exact h.setJtb _

theorem settle (h : w.Tame v) : w.Tame v.settle := by
  have hs := v.settle_settled
  generalize v.settle = u at hs
  induction hs with
  | refl => exact h
  | tail _ k ih => exact ih.settles k

theorem pauseEnded (h : w.Tame v) : w.Tame v.pauseEnded := h

theorem feed (h : w.Tame v) : w.Tame v.feed := by
  have hf := h.onState (State.feed_tame v.st)
  unfold Work.feed
  simp only
  split
  · exact hf.pauseEnded.settle
  · exact hf

theorem finish (h : w.Tame v) : State.Tame w.st v.finish := h.settle.feed

end Work.Tame
end Sys2Proof.Machine
end

section
/-! SUPPORT. What each command leaves of the configuration: the crane reports, the expiries, the station messages and the notice
are tame; a PLACED OCCUPIED is steady, since it writes one locked flag (R11, R77). -/

namespace Sys2Proof.Machine

/-! ## The shared parts of a report -/

/-- What a report that does not fit can leave (R60): the work as it is, the late handling's, or a protocol fault. -/
inductive Work.Unfit (w : Work) (c : CraneNo) (late : Work → Work) : Work → Prop
  | discarded : Unfit w c late w
  | late : Unfit w c late (late w)
  | fault : Unfit w c late (w.fault c .protocol)

theorem Work.unfit_cases (w : Work) (c : CraneNo) (late : Work → Work) : Work.Unfit w c late (w.unfit c late) := by
  unfold Work.unfit
  split
  · exact .discarded
  · exact .late
  · exact .late
  · exact .fault

/-- What a late cycle report can leave (R72, R74): the facts of a stranded job, those of a crane without a job, or the note
alone. -/
inductive Work.Late (w : Work) (c : CraneNo) (facts : Work → Job → Work) (noJob : Crane → Crane) : Work → Prop
  | noJob (h : w.st.craneJob? c = none) : Late w c facts noJob ((w.mapCrane c noJob).unmatched c)
  | unmatched : Late w c facts noJob (w.unmatched c)
  | facts (j : Job) (h : w.st.craneJob? c = some j) : Late w c facts noJob (facts w j)

theorem Work.lateCycle_cases (w : Work) (c : CraneNo) (fits : Phase → Option Leg → Bool) (facts : Work → Job → Work)
    (noJob : Crane → Crane) : Work.Late w c facts noJob (w.lateCycle c fits facts noJob) := by
  unfold Work.lateCycle
  split
  · next e => exact .noJob e
  · next j e =>
    split
    · split
      · exact .facts j e
      · exact .unmatched
    · exact .unmatched

namespace Work.Tame

variable {w v u : Work}

theorem unmatched (h : w.Tame v) (c : CraneNo) : w.Tame (v.unmatched c) := h.report _

theorem unfit (h : w.Tame v) (c : CraneNo) {late : Work → Work} (hl : w.Tame (late v)) : w.Tame (v.unfit c late) := by
  have hu := v.unfit_cases c late
  generalize v.unfit c late = u at hu
  cases hu with
  | discarded => exact h
  | late => exact hl
  | fault => exact h.fault c _

theorem lateCycle (h : w.Tame v) (c : CraneNo) {fits : Phase → Option Leg → Bool} {facts : Work → Job → Work}
    {noJob : Crane → Crane} (hf : ∀ j, w.Tame (facts v j)) (hn : ∀ x, (noJob x).role = x.role := by intro; rfl) :
    w.Tame (v.lateCycle c fits facts noJob) := by
  have hu := v.lateCycle_cases c fits facts noJob
  generalize v.lateCycle c fits facts noJob = u at hu
  cases hu with
  | noJob => exact (h.mapCrane c hn).unmatched c
  | unmatched => exact h.unmatched c
  | facts j => exact hf j

theorem latePos (h : w.Tame v) (c : CraneNo) (x : Option Point) : w.Tame (v.latePos c x) := by
  unfold Work.latePos
  split
  · exact h.mapCrane c
  · exact h

/-! ## What the reports do -/

theorem reformClaim (h : w.Tame v) (c : CraneNo) : w.Tame (v.reformClaim c) := by
  unfold Work.reformClaim
  split
  · exact h.onState (.of_parts rfl rfl rfl rfl rfl rfl)
  · exact h

theorem reachSource (h : w.Tame v) (c : CraneNo) (j : Job) : w.Tame (v.reachSource c j) :=
  (((((h.mapCrane c).arm c _).enter c .fetch).mapJob j.id _).shrinkSpan c _).reformClaim c

theorem takeLoad (h : w.Tame v) (c : CraneNo) (j : Job) (tag : Tag) : w.Tame (v.takeLoad c j tag) := by
  have hm := (h.mapCrane c (f := fun x => { x with load := .tag tag })).mapJob j.id (fun x => { x with tagRead := readTag tag })
  unfold Work.takeLoad
  simp only
  split
  · exact hm.popInfeed j true
  · exact hm

theorem fetched (h : w.Tame v) (c : CraneNo) (j : Job) (tag : Tag) : w.Tame (v.fetched c j tag) := by
  unfold Work.fetched
  extract_lets p taken hauling
  have ht : w.Tame taken := (h.takeLoad c j tag).disarm c
  have hh : w.Tame hauling := (ht.mapCrane c).enter c .haul
  split
  · exact ht.wrongTag c _ tag
  · exact (hh.arm c _).mapJob j.id _

theorem lateFetched (h : w.Tame v) (c : CraneNo) (j : Job) (tag : Tag) : w.Tame (v.lateFetched c j tag) := by
  have hm := (h.takeLoad c j tag).mapJob j.id (fun x => { x with state := .stranded .haul })
  unfold Work.lateFetched
  simp only
  split
  · exact hm.noteMismatch j.id
  · exact hm

theorem sourceEmpty (h : w.Tame v) (j : Job) : w.Tame (v.sourceEmpty j) := by
  unfold Work.sourceEmpty
  extract_lets popped
  have hp : w.Tame popped := by
    unfold popped
    split
    · exact h.popInfeed j false
    · exact h
  exact hp.endJob j.id _ _ _ _

theorem fetchedEmpty (h : w.Tame v) (c : CraneNo) (j : Job) : w.Tame (v.fetchedEmpty c j) :=
  ((((h.disarm c).mapCrane c).sourceEmpty j).shrinkSpan c _).enter c .idle

theorem reachDest (h : w.Tame v) (c : CraneNo) (j : Job) (d : Place) : w.Tame (v.reachDest c j d) :=
  (((h.mapCrane c).enter c .place).arm c _).mapJob j.id _

theorem reachAgain (h : w.Tame v) (c : CraneNo) (d : Place) : w.Tame (v.reachAgain c d) := h.mapCrane c

theorem placeOut (h : w.Tame v) (j : Job) : w.Tame (v.placeOut j) := ((h.mapStation j.aisle _).memberPlaced j).askRelease

theorem place (h : w.Tame v) (c : CraneNo) (j : Job) (standing : Place) : w.Tame (v.place c j standing) := by
  unfold Work.place
  extract_lets interval counted put mismatch final
  have hc : w.Tame counted := h.mapCrane c
  have hp : w.Tame put := by
    unfold put
    split
    · exact hc.placeOut j
    · exact hc
  split
  · exact hp.endJob j.id _ _ _ _
  · exact hp.endJob j.id _ _ _ _

theorem placed (h : w.Tame v) (c : CraneNo) (j : Job) (standing : Place) : w.Tame (v.placed c j standing) :=
  ((((h.disarm c).mapCrane c).place c j standing).shrinkSpan c _).enter c .idle

theorem startHeld (h : w.Tame v) (c : CraneNo) : w.Tame (v.startHeld c) := by
  unfold Work.startHeld
  split
  · exact h.sendCycle c _
  · exact h

theorem moved (h : w.Tame v) (c : CraneNo) (why : Purpose) (t : Nat) : w.Tame (v.moved c why t) := by
  unfold Work.moved
  extract_lets arrived shrunk started
  have hs : w.Tame shrunk := ((h.disarm c).mapCrane c).shrinkSpan c _
  have ht : w.Tame started := by
    unfold started
    split
    · exact hs.startHeld _
    · exact hs
  exact ht.enter c .idle

theorem atReference (h : w.Tame v) (c : CraneNo) (sensed : Bool) (tag : Tag) : w.Tame (v.atReference c sensed tag) :=
  (h.mapCrane c).shrinkSpan c _

theorem resetCycles (h : w.Tame v) (c : CraneNo) (drift : Nat) : w.Tame (v.resetCycles c drift) := by
  unfold Work.resetCycles
  split
  · exact h
  · exact h.mapCrane c

theorem endRun (h : w.Tame v) (c : CraneNo) (drift : Nat) (sensed : Bool) (tag : Tag) :
    w.Tame (v.endRun c drift sensed tag) := by
  have hr := (h.atReference c sensed tag).resetCycles c drift
  unfold Work.endRun
  split
  · exact h.fault c _
  · simp only
    split
    · exact hr.resolve c _ sensed tag
    · split
      · exact hr.fault c _
      · exact hr.enter c .idle

theorem referenced (h : w.Tame v) (c : CraneNo) (drift : Nat) (sensed : Bool) (tag : Tag) :
    w.Tame (v.referenced c drift sensed tag) := by
  unfold Work.referenced
  extract_lets first disarmed told counted
  have ht : w.Tame told := reportCrane (v := { disarmed with drift := some (c, drift) }) (h.disarm c) c
  have hc : w.Tame counted := (ht.mapAisle (aisleOf c)).startDue _
  split
  · exact ((hc.atReference c sensed tag).resetCycles c drift).sendReference c
  · exact hc.endRun c drift sensed tag

theorem bump (h : w.Tame v) (j : Job) : w.Tame (v.bump j) := (h.mapJob j.id _).returnReady j.id

theorem redirectTaken (h : w.Tame v) (c : CraneNo) (j k : Job) : w.Tame (v.redirectTaken c j k) := by
  unfold Work.redirectTaken
  extract_lets p claim reserved leading moved unclaimed spanned
  have hu : w.Tame unclaimed := ((((h.bump j).reserve k).mapJob k.id _).mapCrane c).setClaim c none
  have hs : w.Tame spanned := by
    unfold spanned
    cases claim with
    | some sp => exact hu.setSpan c sp
    | none => exact hu
  exact hs.arm c _

theorem redirectLate (h : w.Tame v) (c : CraneNo) : w.Tame (v.redirectLate c) :=
  ((h.mapCrane c).dropClaim c).returnPromised _

theorem abortTaken (h : w.Tame v) (c : CraneNo) (j : Job) (bay level : Nat) : w.Tame (v.abortTaken c j bay level) :=
  ((((h.disarm c).mapCrane c).endJob j.id _ _ _ _).shrinkSpan c _).enter c .idle

theorem abortLate (h : w.Tame v) (c : CraneNo) : w.Tame (v.abortLate c) := by
  unfold Work.abortLate
  extract_lets dropped
  have hd : w.Tame dropped := by
    unfold dropped
    split
    · exact h.mapJob _ _
    · exact h
  exact hd.mapCrane c

theorem noAnswer (h : w.Tame v) (c : CraneNo) : w.Tame (v.noAnswer c) :=
  ((h.mapCrane c).reportCraneAs c _ true false).endOfWait c

theorem age (h : w.Tame v) (id : JobId) : w.Tame (v.age id) := by
  unfold Work.age
  split
  · exact h
  · exact (h.mapJob id _).noticeReady id _

theorem park (h : w.Tame v) (c : CraneNo) : w.Tame (v.park c) := by
  unfold Work.park
  extract_lets x t
  split
  · exact h.sendMove c _ _
  · exact h.mapCrane c

/-! ## The station link -/

theorem resync (h : w.Tame v) : w.Tame v.resync := by
  unfold Work.resync
  extract_lets old empty sent
  have hs : w.Tame sent :=
    (h.onState (f := fun s => { s with stu := { Stu.reset with linkUp := true } }) (.of_parts rfl rfl rfl rfl rfl rfl)
      ).stationOrder .resync
  exact hs.foldl (fun _ a hu => (hu.claimDue a).roomNotice a) _

theorem arrive (h : w.Tame v) (a : AisleNo) (x : InLoad) : w.Tame (v.arrive a x) := by
  have hr := (h.mapStation a (fun y => { y with infeed := y.infeed ++ [x] })).report (.loadArrived a x.tag x.mark)
  unfold Work.arrive
  simp only
  split
  · exact hr.claimDue a
  · exact hr

theorem departureNotice (h : w.Tame v) (a : AisleNo) : w.Tame (v.departureNotice a) :=
  h.foldl (fun _ c hu => hu.retryBlocked c) _

theorem released (h : w.Tame v) (x : Option OutLoad) : w.Tame (v.released x) := by
  unfold Work.released
  split
  · exact h.setPosition _ _ _
  · exact h

theorem depart (h : w.Tame v) (a : AisleNo) : w.Tame (v.depart a) :=
  ((((h.mapStation a _).released _).roomNotice a).departureNotice a).askRelease

end Work.Tame

/-! ## Each command -/

/-- An outcome that is a next state, and differs tamely. -/
inductive State.TameTo (s : State) : Host.Outcome State Fault Refusal → Prop
  | next {t : State} (h : State.Tame s t) : TameTo s (.next t)

theorem State.TameTo.tame {s t : State} (h : s.TameTo (.next t)) : State.Tame s t := by
  cases h with
  | next h => exact h

theorem State.TameTo.same (s : State) : s.TameTo (.next s) := .next (.refl s)

theorem State.TameTo.finish {s : State} {w : Work} (h : (Work.start s).Tame w) : s.TameTo (.next w.finish) :=
  .next (State.Tame.trans h (Work.Tame.finish (.refl w)))

theorem State.TameTo.craneEvent {s : State} {c : CraneNo} {f : Work → Work} (h : (Work.start s).Tame (f (.start s))) :
    s.TameTo (s.craneEvent c f) := by
  unfold State.craneEvent
  split
  · exact .same s
  · exact .finish h

theorem State.TameTo.timed {s : State} {t : Ms} {f : Work → Work}
    (h : (Work.start s).Tame (f ((Work.start s).reach t))) : s.TameTo (s.timed t f) := .finish h

section
variable (s : State) (c : CraneNo)

theorem execStationLinkUp_tame : s.TameTo (execStationLinkUp s) := by
  unfold execStationLinkUp
  split
  · exact .same s
  · exact .finish (Work.Tame.refl _).resync

theorem execAtSource_tame : s.TameTo (execAtSource c s) := by
  refine .craneEvent ?_
  have h := Work.Tame.refl (.start s)
  split
  · exact h.reachSource c _
  · exact h.unfit c (h.lateCycle c (fun _ => h))

theorem execFetchedOk_tame (tag : Tag) : s.TameTo (execFetchedOk c tag s) := by
  refine .craneEvent ?_
  have h := Work.Tame.refl (.start s)
  split
  · exact h.fetched c _ tag
  · exact h.unfit c (h.lateCycle c (fun j => h.lateFetched c j tag))

theorem execFetchedEmpty_tame : s.TameTo (execFetchedEmpty c s) := by
  refine .craneEvent ?_
  have h := Work.Tame.refl (.start s)
  split
  · exact h.fetchedEmpty c _
  · exact h.unfit c (h.lateCycle c (fun j => (h.latePos c _).sourceEmpty j))

theorem execAtDestination_tame : s.TameTo (execAtDestination c s) := by
  refine .craneEvent ?_
  have h := Work.Tame.refl (.start s)
  split
  · exact h.reachDest c _ _
  · exact h.reachAgain c _
  · exact h.unfit c (h.lateCycle c (fun j => (h.reachAgain c _).mapJob j.id _))

theorem execPlacedOk_tame : s.TameTo (execPlacedOk c s) := by
  refine .craneEvent ?_
  have h := Work.Tame.refl (.start s)
  simp only
  split
  · exact h.placed c _ _
  · refine h.unfit c (h.lateCycle c (fun j => ?_))
    split
    · exact (h.latePos c _).place c j _
    · exact h.unmatched c

theorem execMoved_tame : s.TameTo (execMoved c s) := by
  refine .craneEvent ?_
  have h := Work.Tame.refl (.start s)
  split
  · exact h.moved c _ _
  · exact h.unfit c (h.latePos c _)

theorem execReferenced_tame (drift : Nat) (sensed : Bool) (tag : Tag) : s.TameTo (execReferenced c drift sensed tag s) := by
  refine .craneEvent ?_
  have h := Work.Tame.refl (.start s)
  split
  · exact h.referenced c drift sensed tag
  · exact h.unfit c h

theorem execStopped_tame : s.TameTo (execStopped c s) := by
  refine .craneEvent ?_
  have h := Work.Tame.refl (.start s)
  split
  · exact (h.mapCrane c).endOfWait c
  · exact h.unfit c h

theorem execRedirectTaken_tame : s.TameTo (execRedirectTaken c s) := by
  refine .craneEvent ?_
  have h := Work.Tame.refl (.start s)
  split
  · exact h.redirectTaken c _ _
  · exact h.unfit c h

theorem execRedirectLate_tame : s.TameTo (execRedirectLate c s) := by
  refine .craneEvent ?_
  have h := Work.Tame.refl (.start s)
  split
  · exact h.redirectLate c
  · exact h.unfit c h

theorem execAbortTaken_tame (bay level : Nat) : s.TameTo (execAbortTaken c bay level s) := by
  refine .craneEvent ?_
  have h := Work.Tame.refl (.start s)
  split
  · split
    · exact h.abortTaken c _ bay level
    · exact h.fault c _
  · refine h.unfit c ?_
    split
    · exact h.latePos c _
    · exact h

theorem execAbortLate_tame : s.TameTo (execAbortLate c s) := by
  refine .craneEvent ?_
  have h := Work.Tame.refl (.start s)
  split
  · exact h.abortLate c
  · exact h.unfit c h

theorem execEcho_tame (frame : Nat) (body : List Byte) : s.TameTo (execEcho c frame body s) := by
  refine .craneEvent ?_
  have h := Work.Tame.refl (.start s)
  split
  · exact h.afterFrame c frame _
  · exact h.unfit c h

theorem execCraneFault_tame (code : Nat) : s.TameTo (execCraneFault c code s) := by
  refine .craneEvent ?_
  have h := Work.Tame.refl (.start s)
  split
  · exact h
  · exact (h.mapCrane c).reportCrane c
  · exact (h.mapCrane c).reportCrane c
  · exact h.fault c _

theorem execMisfitReport_tame : s.TameTo (execMisfitReport c s) :=
  .craneEvent ((Work.Tame.refl _).unfit c (.refl _))

theorem execMotionDeadlineExpiry_tame : s.TameTo (execMotionDeadlineExpiry c s) := by
  unfold execMotionDeadlineExpiry
  split
  · exact .same s
  · exact .timed (((Work.Tame.refl _).reach _).fault c _)

theorem execStopAnswerTimeout_tame : s.TameTo (execStopAnswerTimeout c s) := by
  unfold execStopAnswerTimeout
  split
  · exact .same s
  · exact .timed (((Work.Tame.refl _).reach _).noAnswer c)

theorem execEchoDeadlineExpiry_tame : s.TameTo (execEchoDeadlineExpiry c s) := by
  unfold execEchoDeadlineExpiry
  split
  · exact .timed (((Work.Tame.refl _).reach _).afterFrame c _ _)
  · exact .same s

theorem execAgingExpiry_tame (id : JobId) : s.TameTo (execAgingExpiry id s) := by
  unfold execAgingExpiry
  split
  · exact .same s
  · exact .timed (((Work.Tame.refl _).reach _).age id)

theorem execParkExpiry_tame : s.TameTo (execParkExpiry c s) := by
  unfold execParkExpiry
  split
  · exact .same s
  · exact .timed (((Work.Tame.refl _).reach _).park c)

theorem stationFault_tame (a : Option AisleNo) (k : StationFault) : s.TameTo (.next (s.stationFault a k)) :=
  .finish ((Work.Tame.refl _).report _)

theorem execLoadArrived_tame (aisle : Nat) (tag : Tag) (mark : Bool) : s.TameTo (execLoadArrived aisle tag mark s) := by
  unfold execLoadArrived
  split
  · exact stationFault_tame s _ _
  · split
    · exact stationFault_tame s _ _
    · split
      · exact stationFault_tame s _ _
      · exact .finish ((Work.Tame.refl _).arrive _ _)

theorem execLoadDeparted_tame (aisle : Nat) : s.TameTo (execLoadDeparted aisle s) := by
  unfold execLoadDeparted
  split
  · exact stationFault_tame s _ _
  · split
    · exact .finish ((Work.Tame.refl _).depart _)
    · exact .finish (((Work.Tame.refl _).report _).departureNotice _)

theorem execCollectorReady_tame : s.TameTo (execCollectorReady s) :=
  .finish (w := (Work.start { s with stu := { s.stu with collector := .ready } }).askRelease)
    (.of_parts rfl rfl rfl rfl rfl rfl)

theorem execStationFrameDiscarded_tame (why : StationDiscard) : s.TameTo (execStationFrameDiscarded why s) := by
  cases why with
  | badCheck => exact .same s
  | oversize => exact .same s
  | malformed a => exact stationFault_tame s _ _

theorem execRecordFreeNotice_tame : s.TameTo (execRecordFreeNotice s) := by
  unfold execRecordFreeNotice
  split
  · exact .same s
  · refine .finish (Work.Tame.spawnAll ?_)
    exact .of_parts rfl rfl rfl rfl rfl rfl

/-! ## PLACED OCCUPIED -/

/-- R11: the record of a location found occupied is written with its flag, and the depth checks follow. -/
theorem Work.occupied_steady (w : Work) (l : Loc) (j : Job) : State.Steady w.st (w.occupied l j).st := by
  unfold Work.occupied
  simp only
  split
  · exact (State.setLoc_steady w.st l _).trans
      (Work.Tame.depthCheck (.refl (w.onState (fun s => s.setLoc l { occ := .full 0, locked := true }))) l _).toSteady
  · exact .refl _

theorem Work.foundOccupied_steady (w : Work) (l : Loc) (j : Job) : State.Steady w.st (w.foundOccupied l j).st := by
  unfold Work.foundOccupied
  extract_lets noted
  have hn : w.Tame noted := by
    unfold noted
    split
    · exact (Work.Tame.refl w).noteTarget _
    · exact .refl w
  exact (hn.toSteady.trans (noted.occupied_steady l j)).trans ((Work.Tame.refl _).mapJob j.id _).toSteady

theorem Work.placedOccupied_steady (w : Work) (c : CraneNo) (j : Job) (standing : Place) :
    State.Steady w.st (w.placedOccupied c j standing).st := by
  unfold Work.placedOccupied
  split
  · exact (w.foundOccupied_steady _ j).trans (((Work.Tame.refl _).disarm c).replace c _ _).toSteady
  · exact ((Work.Tame.refl w).waitPlace c _ _).toSteady

theorem Work.lateOccupied_steady (w : Work) (c : CraneNo) (j : Job) : State.Steady w.st (w.lateOccupied c j).st := by
  unfold Work.lateOccupied
  split
  · exact w.foundOccupied_steady _ j
  · exact .refl _

theorem execPlacedOccupied_steady {t : State} (h : execPlacedOccupied c s = .next t) : State.Steady s t := by
  have finish : ∀ w : Work, State.Steady s w.st → State.Steady s w.finish := fun w hw =>
    hw.trans (Work.Tame.finish (.refl w)).toSteady
  unfold execPlacedOccupied State.craneEvent at h
  split at h
  · cases h; exact .refl s
  · cases h
    have h := Work.Tame.refl (.start s)
    refine finish _ ?_
    simp only
    split
    · exact (Work.start s).placedOccupied_steady c _ _
    · have hu := (Work.start s).unfit_cases c
        (fun w => w.lateCycle c latePlaced (fun w j => w.lateOccupied c j) (fun x => { x with load := .unknown }))
      generalize (Work.start s).unfit c _ = u at hu
      cases hu with
      | discarded => exact .refl s
      | fault => exact (h.fault c _).toSteady
      | late =>
        have hl := (Work.start s).lateCycle_cases c latePlaced (fun w j => w.lateOccupied c j)
          (fun x => { x with load := .unknown })
        generalize (Work.start s).lateCycle c latePlaced _ _ = u at hl
        cases hl with
        | noJob => exact ((h.mapCrane c).unmatched c).toSteady
        | unmatched => exact (h.unmatched c).toSteady
        | facts j => exact (Work.start s).lateOccupied_steady c j
end

/-! ## Every event -/

/-- Every command that is no request, no reset, no PLACED OCCUPIED and no end or receipt of a frame is tame. -/
theorem exec_tame {i : Instr} {s t : State} (hq : requestOf i = none) (hr : i ≠ .hardwareReset)
    (hb : ∀ b, i ≠ .hostFrameReceived b) (he : i ≠ .frameTransmissionEnd) (ho : ∀ c, i ≠ .placedOccupied c)
    (h : exec i s = .next t) : State.Tame s t := by
  refine State.TameTo.tame (h ▸ ?_)
  cases i with
  | hardwareReset => exact absurd rfl hr
  | hostFrameReceived b => exact absurd rfl (hb b)
  | frameTransmissionEnd => exact absurd rfl he
  | placedOccupied c => exact absurd rfl (ho c)
  | stationLinkUp => exact execStationLinkUp_tame s
  | atSource c => exact execAtSource_tame s c
  | fetchedOk c tag => exact execFetchedOk_tame s c tag
  | fetchedEmpty c => exact execFetchedEmpty_tame s c
  | atDestination c => exact execAtDestination_tame s c
  | placedOk c => exact execPlacedOk_tame s c
  | moved c => exact execMoved_tame s c
  | referenced c drift sensed tag => exact execReferenced_tame s c drift sensed tag
  | stopped c => exact execStopped_tame s c
  | redirectTaken c => exact execRedirectTaken_tame s c
  | redirectLate c => exact execRedirectLate_tame s c
  | abortTaken c bay level => exact execAbortTaken_tame s c bay level
  | abortLate c => exact execAbortLate_tame s c
  | echo c frame body => exact execEcho_tame s c frame body
  | craneFault c code => exact execCraneFault_tame s c code
  | misfitReport c => exact execMisfitReport_tame s c
  | craneFrameDiscarded c why => exact State.TameTo.same s
  | motionDeadlineExpiry c => exact execMotionDeadlineExpiry_tame s c
  | stopAnswerTimeout c => exact execStopAnswerTimeout_tame s c
  | echoDeadlineExpiry c => exact execEchoDeadlineExpiry_tame s c
  | agingExpiry id => exact execAgingExpiry_tame s id
  | parkExpiry c => exact execParkExpiry_tame s c
  | loadArrived aisle tag mark => exact execLoadArrived_tame s aisle tag mark
  | loadDeparted aisle => exact execLoadDeparted_tame s aisle
  | collectorReady => exact execCollectorReady_tame s
  | stationFrameDiscarded why => exact execStationFrameDiscarded_tame s why
  | recordFreeNotice => exact execRecordFreeNotice_tame s
  | _ => cases hq

/-- The end of a transmission, before a waiting request is taken (R190). -/
theorem State.endTransmission_tame (s : State) : State.Tame s s.endTransmission :=
  (State.withHli_tame s { s.hli with line := none } rfl rfl rfl).trans
    (Work.Tame.refl (.start { s with hli := { s.hli with line := none } })).feed

/-- Taking the requests of a buffer whose head is no request changes nothing. -/
theorem State.serveAll_of_head {s : State} (h : ∀ c, s.hli.input.head? ≠ some (.request c)) : s.serveAll = s := by
  refine State.serve_of_none _ ?_
  unfold State.takes
  split
  · next c rest e => exact absurd (by rw [e]; rfl) (h c)
  · rfl

/-- Without a request waiting, the end of a transmission is tame (R189). -/
theorem execFrameTransmissionEnd_tame {s t : State} (hh : ∀ c, s.hli.input.head? ≠ some (.request c))
    (h : execFrameTransmissionEnd s = .next t) : State.Tame s t := by
  unfold execFrameTransmissionEnd at h
  split at h
  · cases h; exact .refl s
  · cases h
    rw [State.serveAll_of_head (by rw [s.endTransmission_tame.input]; exact hh)]
    exact s.endTransmission_tame

/-- Settles O9: every event is steady, and tame but for PLACED OCCUPIED. -/
theorem eventsKeepTheConfiguration : Obligations.EventsKeepTheConfiguration := by
  intro i s t hq hr hb hh h
  have tame : (∀ c, i ≠ .placedOccupied c) → State.Tame s t := fun ho => by
    by_cases he : i = .frameTransmissionEnd
    · subst he; exact execFrameTransmissionEnd_tame (hh rfl) h
    · exact exec_tame hq hr hb he ho h
  have steady : State.Steady s t := by
    by_cases ho : ∃ c, i = .placedOccupied c
    · obtain ⟨c, rfl⟩ := ho
      exact execPlacedOccupied_steady s c h
    · exact (tame (fun c e => ho ⟨c, e⟩)).toSteady
  obtain ⟨new, hn⟩ := steady.sent
  exact ⟨steady.pending, steady.rx, steady.input, fun a => ⟨steady.profile a, steady.ceiling a, steady.copy a⟩,
    steady.role, ⟨new, hn.symm⟩, fun hw ho => (tame ho).locked hw⟩

end Sys2Proof.Machine
end

section
/-! SUPPORT. The canonical form of the location table (log entry 5) is kept by every request, and so by every step. -/

namespace Sys2Proof.Machine

namespace Work.Tame

variable {w v : Work}

/-- Work that differs tamely keeps the canonical form. -/
theorem keepsForm (h : w.Tame v) (hw : w.st.ltb.wf = true) : v.st.ltb.wf = true := h.toSteady.wf hw

/-! ## What the requests do -/

theorem writeUrgency (h : w.Tame v) (id : JobId) (u : Nat) : w.Tame (v.writeUrgency id u) := by
  unfold Work.writeUrgency
  split
  · exact h
  · split
    · simp only
      split
      · exact (h.mapJob id _).noticeReady id _
      · exact h.mapJob id _
    · split
      · exact h.mapJob id _
      · exact h

theorem setUrgency (h : w.Tame v) (id : JobId) (u : Nat) : w.Tame (v.setUrgency id u) := by
  have hu := h.writeUrgency id u
  unfold Work.setUrgency
  simp only
  split
  · exact hu.writeUrgency _ u
  · exact hu

theorem admitRun (h : w.Tame v) (r : Run) : w.Tame (v.admitRun r) := by
  unfold Work.admitRun
  extract_lets joined marked
  have hj : w.Tame joined := h.setRnu _
  have hm : w.Tame marked := by
    unfold marked
    split
    · exact (hj.mapGroup _ _).groupChanged _
    · exact hj
  exact hm.fillRun 8 r.id

theorem withdrawChild {x : Work × Nat} (h : w.Tame x.1) (id : JobId) : w.Tame (withdrawChild x id).1 := by
  unfold Sys2Proof.Machine.withdrawChild
  split
  · exact h
  · split
    · exact h.cancelUnstarted id _
    · exact h.cancelUnstarted id _
    · exact h.cancelStranded _
    · exact h

theorem withdrawChildren {x : Work × Nat} (h : w.Tame x.1) (ids : List JobId) :
    w.Tame (ids.foldl Sys2Proof.Machine.withdrawChild x).1 := by
  induction ids generalizing x with
  | nil => exact h
  | cons id ids ih => exact ih (h.withdrawChild id)

theorem cancelMember (h : w.Tame v) (id : JobId) : w.Tame (cancelMember v id) := by
  unfold Sys2Proof.Machine.cancelMember
  split
  · split
    · exact h.cancelUnstarted id _
    · exact h
  · exact h

theorem hostWrote (h : w.Tame v) (l : Loc) (was : LocRec) : w.Tame (v.hostWrote l was) := by
  unfold Work.hostWrote
  extract_lets r tested noticed
  have ht : w.Tame tested := by
    unfold tested
    split
    · exact h.retestFar l
    · exact h
  have hn : w.Tame noticed := by
    unfold noticed
    split
    · exact ht.noticeAvail _
    · exact ht
  split
  · exact hn.noticeAvail _
  · exact hn

theorem setLocation (h : w.Tame v) (l : Loc) (o : Occ) : w.Tame (v.setLocation l o) := (h.setOcc l o).hostWrote l _

theorem unlockNotices (h : w.Tame v) (l : Loc) (was : LocRec) : w.Tame (v.unlockNotices l was) := by
  unfold Work.unlockNotices
  split
  · exact h.noticeAvail _
  · exact h

theorem beginClose (h : w.Tame v) (a : AisleNo) : w.Tame (v.beginClose a) :=
  (((h.leaveOpen a).mapAisle a).reportAisle a none).closeDue a

theorem lockoutAisle (h : w.Tame v) (a : AisleNo) : w.Tame (v.lockoutAisle a) := by
  unfold Work.lockoutAisle
  split
  · exact h
  · exact h.lockout a _ _

theorem beginRelease (h : w.Tame v) (a : AisleNo) : w.Tame (v.beginRelease a) :=
  foldl (fun _ c hu => hu.startReference c) ((h.mapAisle a).reportAisle a none) _

theorem releaseFull (h : w.Tame v) (a : AisleNo) : w.Tame (v.releaseFull a) := by
  unfold Work.releaseFull
  exact (h.foldl (fun u c hu => by
    split
    · exact hu.goOffline c none
    · exact hu) _).beginFull a

theorem releaseAisle (h : w.Tame v) (a : AisleNo) : w.Tame (v.releaseAisle a) := by
  unfold Work.releaseAisle
  split
  · exact h.releaseFull a
  · exact h.beginRelease a

theorem commit (h : w.Tame v) (a : AisleNo) : w.Tame (v.commit a) := by
  unfold Work.commit
  split
  · split
    · exact h.mapAisle a
    · exact (h.adopt a).evalAisle a
  · exact h.adopt a

theorem unlinkGroup (h : w.Tame v) (gid : GroupId) : w.Tame (v.onState (fun s => s.unlinkGroup gid)) := by
  have stations : ∀ (f : AisleNo → Station → Station) (as : List AisleNo) (s t : State), State.Tame s t →
      State.Tame s (as.foldl (fun s a => s.mapStation a (f a)) t) := by
    intro f as s
    induction as with
    | nil => exact fun t ht => ht
    | cons a as ih => exact fun t ht => ih _ (ht.trans (.of_parts rfl rfl rfl rfl rfl rfl))
  refine h.onState ?_
  unfold State.unlinkGroup
  exact stations (fun _ => _) _ _ _ (.of_parts rfl rfl rfl rfl rfl rfl)

theorem cancelGroup (h : w.Tame v) (gid : GroupId) : w.Tame (v.cancelGroup gid) := by
  have hm := h.foldl (fun _ id hu => hu.cancelMember id) ((v.st.membersOf gid).map Job.id)
  exact (((hm.unlinkGroup gid).removeGroup gid).report _).askRelease

theorem stopAll (h : w.Tame v) : w.Tame v.stopAll := h.foldl (fun _ c hu => hu.sendStop c) _

end Work.Tame

/-- R18: what a lock request writes, before the re-test of R14. -/
theorem Work.writeLock_tame (w : Work) (l : Loc) (b : Bool) :
    State.Tame (w.st.setLoc l { w.st.loc l with locked := b }) (w.writeLock l b).st := by
  have h := Work.Tame.refl (w.onState (fun s => s.setLoc l { s.loc l with locked := b }))
  unfold Work.writeLock
  simp only
  split
  · exact h.retestFar l
  · exact h

/-! ## The canonical form after each request -/

section
variable {s : State}

/-- A request that is refused changes nothing, so only what an accepted one does is in question. -/
theorem checked_form {α : Type} {check : Except Result α} {f : α → Work × Answer} (h : s.ltb.wf = true)
    (hf : ∀ x, (f x).1.st.ltb.wf = true) : (checked s check f).1.st.ltb.wf = true := by
  cases check with
  | error r => exact h
  | ok x => exact hf x

theorem State.applyProfile_form (h : s.ltb.wf = true) (a : AisleNo) (p : Profile) : (s.applyProfile a p).ltb.wf = true := by
  have cranes : ∀ (f : CraneNo → Crane → Crane) (cs : List CraneNo) (t : State),
      (cs.foldl (fun s c => s.mapCrane c (f c)) t).ltb = t.ltb := by
    intro f cs
    induction cs with
    | nil => exact fun t => rfl
    | cons c cs ih => exact fun t => ih _
  have links : ∀ (cs : List CraneNo) (t : State),
      (cs.foldl (fun s c => if s.present c then s else s.setProving c .reset) t).ltb = t.ltb := by
    intro cs
    induction cs with
    | nil => exact fun t => rfl
    | cons c cs ih =>
      intro t
      refine (ih _).trans ?_
      show (if t.present c then t else t.setProving c .reset).ltb = t.ltb
      split <;> rfl
  unfold State.applyProfile
  simp only [links, cranes]
  split
  · exact h
  · exact LocTable.dropAisle_wf a h

theorem State.setLocs_form (h : s.ltb.wf = true) (xs : List (Loc × LocRec)) :
    (xs.foldl (fun s x => s.setLoc x.1 x.2) s).ltb.wf = true := by
  induction xs generalizing s with
  | nil => exact h
  | cons x xs ih => exact ih (State.setLoc_wf x.1 x.2 h)

theorem Work.loadLocations_form (h : s.ltb.wf = true) (xs : List (Loc × LocRec)) :
    ((Work.start s).loadLocations xs).st.ltb.wf = true := by
  unfold Work.loadLocations
  exact ((Work.Tame.refl _).foldl (fun _ x hu => hu.hostWrote x.1 x.2) _).keepsForm (State.setLocs_form h xs)

theorem Work.writeLock_form (h : s.ltb.wf = true) (l : Loc) (b : Bool) :
    ((Work.start s).writeLock l b).st.ltb.wf = true :=
  ((Work.start s).writeLock_tame l b).wf (State.setLoc_wf l _ h)

theorem restartBody_form (h : s.ltb.wf = true) : (restartBody s).st.ltb.wf = true := by
  have hs : (Work.start s).stopAll.st.ltb.wf = true := (Work.Tame.refl _).stopAll.keepsForm h
  exact LocTable.afterRestart_wf hs

theorem cancelBody_form (h : s.ltb.wf = true) (j : Job) : (cancelBody s j).1.st.ltb.wf = true := by
  have hr := Work.Tame.refl (.start s)
  unfold cancelBody
  split
  · exact (hr.cancelUnstarted j.id _).keepsForm h
  · exact (hr.cancelUnstarted j.id _).keepsForm h
  · exact h
  · split
    · unfold cancelLead
      split
      · exact (hr.cancelHold j.id _ _).keepsForm h
      · split
        · exact (hr.startAbort j.id _ _).keepsForm h
        · exact h
    · exact h
  · unfold cancelFetch
    split
    · split
      · exact h
      · exact h
    · exact h
  · exact h
  · exact h
  · exact (hr.cancelStranded j).keepsForm h
  · exact h

theorem endRunBody_form (h : s.ltb.wf = true) (r : Run) (withdraw : Bool) :
    (endRunBody s r withdraw).1.st.ltb.wf = true := by
  have hs : (Work.start s).Tame { (Work.start s).stopRun r.id .request with deferRuns := true } :=
    (Work.Tame.refl _).stopRun r.id _
  unfold endRunBody
  simp only
  split
  · exact (Work.Tame.withdrawChildren (x := (_, 0)) hs _).keepsForm h
  · exact hs.keepsForm h

theorem Work.setCeiling_form (h : s.ltb.wf = true) (a : AisleNo) (n : Nat) :
    ((Work.start s).setCeiling a n).st.ltb.wf = true := by
  unfold Work.setCeiling
  simp only
  split <;> exact h

/-- The owner of a request keeps the canonical form of the table (R189). -/
theorem State.hand_form (h : s.ltb.wf = true) (c : Instr) : (s.hand c).1.st.ltb.wf = true := by
  have hr := Work.Tame.refl (.start s)
  cases c with
  | submitJob t b => exact checked_form h (fun x => (hr.admitJob x.1 x.2).keepsForm h)
  | setUrgency t r => exact checked_form h (fun x => (hr.setUrgency x.1 x.2).keepsForm h)
  | cancelJob t i => exact checked_form h (cancelBody_form h)
  | queryJob t i => exact checked_form h (fun _ => h)
  | submitRun t b => exact checked_form h (fun r => (hr.admitRun r).keepsForm h)
  | endRun t r => exact checked_form h (fun x => endRunBody_form h x.1 x.2)
  | queryRun t i => exact checked_form h (fun _ => h)
  | loadLocations t r => exact checked_form h (Work.loadLocations_form h)
  | setLocation t r => exact checked_form h (fun x => (hr.setLocation x.1 x.2).keepsForm h)
  | lockLocation t l => exact checked_form h (fun l => Work.writeLock_form h l true)
  | unlockLocation t l =>
    exact checked_form h (fun l => ((Work.Tame.refl _).unlockNotices l _).keepsForm (Work.writeLock_form h l false))
  | queryLocation t r => exact checked_form h (fun _ => h)
  | setProfile t r => exact checked_form h (fun x => State.applyProfile_form h x.1 x.2)
  | openAisle t a => exact checked_form h (fun a => (hr.beginFull a).keepsForm h)
  | closeAisle t a => exact checked_form h (fun a => (hr.beginClose a).keepsForm h)
  | lockoutAisle t a => exact checked_form h (fun a => (hr.lockoutAisle a).keepsForm h)
  | releaseAisle t a => exact checked_form h (fun a => (hr.releaseAisle a).keepsForm h)
  | setCeiling t r => exact checked_form h (fun x => Work.setCeiling_form h x.1 x.2)
  | editSchedule t r => exact checked_form h (fun _ => h)
  | commitSchedule t a => exact checked_form h (fun a => (hr.commit a).keepsForm h)
  | queryAisle t a => exact checked_form h (fun _ => h)
  | clearCrane t c => exact checked_form h (fun c => (hr.sendReference c).keepsForm h)
  | queryCrane t c => exact checked_form h (fun _ => h)
  | queryStation t a => exact checked_form h (fun _ => h)
  | openGroup t r => exact checked_form h (fun _ => h)
  | groupCancel t i => exact checked_form h (fun g => (hr.cancelGroup g.id).keepsForm h)
  | queryGroup t i => exact checked_form h (fun _ => h)
  | identify t b => exact checked_form h (fun _ => h)
  | restart t b => exact checked_form h (fun _ => restartBody_form h)
  | _ => exact h

/-- R189: the reply and the end of the event keep the form. -/
theorem answerWith_form (r : Work × Answer) (k : ReplyKind) (tag : FrameTag) (h : r.1.st.ltb.wf = true) :
    (answerWith r k tag).ltb.wf = true :=
  (Work.Tame.finish (.refl (r.1.onState (fun s => s.pushReply (r.2.reply k tag))))).wf h

theorem State.carryOut_form (h : s.ltb.wf = true) (c : Instr) : (s.carryOut c).ltb.wf = true := by
  unfold State.carryOut
  split
  · exact answerWith_form _ _ _ (State.hand_form h c)
  · exact h

theorem State.serveAll_form (h : s.ltb.wf = true) : s.serveAll.ltb.wf = true :=
  State.serve_keeps (P := fun s => s.ltb.wf = true) (fun s c rest hs _ _ => State.carryOut_form (s := s.withInput rest) hs c)
    _ s h

theorem State.receiveRequest_form (h : s.ltb.wf = true) (c : Instr) : (s.receiveRequest c).ltb.wf = true :=
  State.serveAll_form (s := s.withInput (enterBuffer c s.hli.input)) h

/-- A command that is a request reaches the buffer (R189). -/
theorem exec_request {c : Instr} {x : ReplyKind × FrameTag} (h : requestOf c = some x) :
    exec c s = .next (s.receiveRequest c) := by
  cases c <;> cases h <;> rfl

theorem exec_form (h : s.ltb.wf = true) {c : Instr} {t : State} (e : exec c s = .next t) : t.ltb.wf = true := by
  cases hq : requestOf c with
  | none =>
    cases c with
    | hardwareReset => cases e; rfl
    | hostFrameReceived b => cases e; exact h
    | frameTransmissionEnd =>
      change execFrameTransmissionEnd s = _ at e
      unfold execFrameTransmissionEnd at e
      split at e
      · cases e; exact h
      · cases e; exact State.serveAll_form (s.endTransmission_tame.wf h)
    | placedOccupied c => exact (execPlacedOccupied_steady s c e).wf h
    | _ => exact (exec_tame hq (by simp) (by simp) (by simp) (by simp) e).wf h
  | some x =>
    rw [exec_request hq] at e
    cases e
    exact State.receiveRequest_form h c
end

/-- Settles O6: the canonical form is kept by each command, and an idle step leaves the table. -/
theorem everyStepKeepsTheLocationTableForm : Obligations.EveryStepKeepsTheLocationTableForm := by
  intro s t h e
  unfold step at e
  split at e
  · cases e; exact h
  · next c rest _ => exact exec_form (s := s.withRest rest) h e

end Sys2Proof.Machine
end

section
/-! SUPPORT. The host's writes of locations (R16–R18): a request that is taken is answered by its reply, the table after it is the
one its owner left but for places reserved at the end of the event, and those are unlocked. -/

namespace Sys2Proof.Machine

/-! ## A request that is taken at once -/

theorem State.pushReply_answers (s : State) (r : Reply) : (s.pushReply r).answers = s.answers ++ [r] := by
  simp [State.answers, State.pushReply]

/-- R189: a request that may be taken is carried out by its owner and answered. -/
theorem exec_taken {s : State} {c : Instr} {k : ReplyKind} {tag : FrameTag} (hm : s.mayTakeRequest = true)
    (hq : requestOf c = some (k, tag)) : exec c s = .next (answerWith (s.hand c) k tag) := by
  rw [exec_request hq, State.receiveRequest_now hm, State.carryOut, hq]

/-- The end of the event of a request is tame. -/
theorem answerWith_tame (r : Work × Answer) (k : ReplyKind) (tag : FrameTag) :
    State.Tame (r.1.st.pushReply (r.2.reply k tag)) (answerWith r k tag) :=
  Work.Tame.finish (.refl (r.1.onState (fun s => s.pushReply (r.2.reply k tag))))

/-- The replies after a request whose owner's work gave none. -/
theorem answerWith_answers {s : State} {r : Work × Answer} (h : State.Steady s r.1.st) (k : ReplyKind) (tag : FrameTag) :
    (answerWith r k tag).answers = s.answers ++ [r.2.reply k tag] := by
  rw [(answerWith_tame r k tag).answers, State.pushReply_answers, h.answers]

/-- The locked flags after a request. -/
theorem answerWith_locked (r : Work × Answer) (k : ReplyKind) (tag : FrameTag) (h : r.1.st.ltb.wf = true) (l : Loc) :
    ((answerWith r k tag).loc l).locked = (r.1.st.loc l).locked := (answerWith_tame r k tag).locked h l

/-- A line that was fed takes the reply at once when it is idle, and the queue takes it otherwise (R190). -/
theorem State.feed_pushReply {s : State} (h : s.lineFed) (r : Reply) :
    (s.pushReply r).feed = s.replied r ∧ (s.pushReply r).feed.hli.pause = s.hli.pause := by
  unfold State.replied
  cases hl : s.hli.line with
  | some f => simp [State.feed, Hli.feed, State.pushReply, hl]
  | none =>
    have hr := (h hl).1
    simp [State.feed, Hli.feed, State.pushReply, State.sendOut, hl, hr]

/-! ## Locks (R18) -/

/-- A lock request is answered, and writes its location's flag and no other. -/
theorem lock_answered {s : State} {l : Loc} {b : Bool} {r : Work × Answer} (hw : s.ltb.wf = true)
    (h : State.Tame (s.setLoc l { s.loc l with locked := b }) r.1.st) (k : ReplyKind) (tag : FrameTag) :
    (answerWith r k tag).answers = s.answers ++ [r.2.reply k tag] ∧ ((answerWith r k tag).loc l).locked = b ∧
      ∀ x, x ≠ l → ((answerWith r k tag).loc x).locked = (s.loc x).locked := by
  have hs := State.setLoc_steady s l { s.loc l with locked := b }
  have flag : ∀ x, ((answerWith r k tag).loc x).locked = ((s.setLoc l { s.loc l with locked := b }).loc x).locked :=
    fun x => (answerWith_locked r k tag (h.wf (hs.wf hw)) x).trans (h.locked (hs.wf hw) x)
  refine ⟨answerWith_answers (hs.trans h.toSteady) k tag, ?_, fun x hx => ?_⟩
  · rw [flag, State.setLoc_loc hw, if_pos rfl]
  · rw [flag, State.setLoc_loc_other _ hx]

/-- Settles O28: both requests write the flag, and what follows the write is tame. -/
theorem lockAndUnlockWriteOneFlag : Obligations.LockAndUnlockWriteOneFlag := by
  intro s tag raw l hm hw hl
  have hc : s.checkLock (some raw) = .ok l := hl
  constructor
  · have hh : s.hand (.lockLocation tag (some raw)) = done ((Work.start s).writeLock l true) := by
      simp [State.hand, onLockLocation, hc, checked]
    refine ⟨_, exec_taken hm rfl, ?_⟩
    rw [hh]
    exact lock_answered (r := done _) hw ((Work.start s).writeLock_tame l true) _ _
  · have hh : s.hand (.unlockLocation tag (some raw)) =
        done (((Work.start s).writeLock l false).unlockNotices l (s.loc l)) := by
      simp [State.hand, onUnlockLocation, hc, checked]
    refine ⟨_, exec_taken hm rfl, ?_⟩
    rw [hh]
    have hn := (Work.Tame.refl ((Work.start s).writeLock l false)).unlockNotices l (s.loc l)
    exact lock_answered (r := done _) hw (((Work.start s).writeLock_tame l false).trans hn) _ _

/-! ## A locked location at the end of an event -/

/-- What a small action of the end of an event does to the table: nothing, or the reservation of an EMPTY, unlocked place. -/
theorem Work.Settles.table {w v : Work} (h : Work.Settles w v) : v.st.ltb = w.st.ltb ∨
    ∃ l o, (w.st.loc l).occ = .empty ∧ (w.st.loc l).locked = false ∧
      v.st.ltb = w.st.ltb.put l { w.st.loc l with occ := o } := by
  cases h with
  | notice e => exact .inl (by rw [e])
  | take id l tag he hu hw => exact .inr ⟨l, .inbound tag id, he, hu, by simp⟩
  | reference c hc => exact .inl (by simp only [Work.sendReference]; split <;> simp)
  | cycle c j hc => exact .inl (by simp [Work.sendCycle])
  | carry c j d hc hp hj hd => exact .inl (by simp [Work.sendCarry])
  | yields c t hc => exact .inl (by simp [Work.sendMove])
  | again c id l hc hl hj => exact .inl (by simp [Work.sendPlaceAgain])
  | adopt a hm => exact .inl (by simp [Work.adopt])
  | promise k c cl hc ho hk hs => exact .inl (by simp [Work.promise])
  | offline c ha hc => exact .inl (by simp [Work.goOffline])
  | release a u hm hw => exact .inl rfl
  | runEnd id r hr => exact .inl rfl
  | free hf => exact .inl rfl
  | _ => exact .inl (by simp)

/-- The end of an event leaves the record of a location that is not EMPTY and unlocked. -/
theorem Work.settle_loc {w : Work} {l : Loc} (hl : (w.st.loc l).occ ≠ .empty ∨ (w.st.loc l).locked = true) :
    w.settle.st.loc l = w.st.loc l := by
  refine Work.Settled.keep (P := fun s => s.loc l = w.st.loc l) (fun v u k h => ?_) w.settle_settled rfl
  rcases k.table with e | ⟨m, o, he, hu, e⟩
  · simpa [State.loc, e] using h
  · have hne : l ≠ m := by
      rintro rfl
      rw [h] at he hu
      rcases hl with hl | hl
      · exact hl he
      · rw [hl] at hu; cases hu
    rw [← h]
    simp only [State.loc, e]
    exact LocTable.get_put_other _ hne

theorem State.feed_ltb (s : State) : s.feed.ltb = s.ltb := by
  obtain ⟨_, _, e, _⟩ := s.feed_frame
  rw [e]

theorem Work.finish_loc {w : Work} {l : Loc} (hl : (w.st.loc l).occ ≠ .empty ∨ (w.st.loc l).locked = true) :
    w.finish.loc l = w.st.loc l := by
  have hs := Work.settle_loc hl
  have hf : w.settle.st.feed.loc l = w.st.loc l := by rw [← hs]; simp [State.loc, State.feed_ltb]
  rcases Work.feed_cases w.settle with e | ⟨_, _, e⟩
  · rw [Work.finish, e, hf]
  · have hp : (w.settle.onState State.feed).pauseEnded.st.loc l = w.st.loc l := hf
    rw [Work.finish, e, Work.settle_loc (by rw [hp]; exact hl), hp]

/-! ## SET-LOCATION (R17) -/

theorem Work.delWait_ltb (w : Work) (id : JobId) (r : Reason) : (w.delWait id r).st.ltb = w.st.ltb := by
  rcases w.delWait_cases id r with e | ⟨j, _, _, _, e | e⟩ <;> simp [e]

/-- R14: the re-test of a FAR source behind a locked NEAR location asks for no clearance, so it writes no record. -/
theorem Work.retestFar_ltb {w : Work} {near : Loc} (h : (w.st.loc near).locked = true) :
    (w.retestFar near).st.ltb = w.st.ltb := by
  have hf : (w.st.loc near).fullUnlocked = none := by
    unfold LocRec.fullUnlocked
    split
    · simp [h]
    · rfl
  unfold Work.retestFar
  split
  · split
    · rfl
    · split
      · split
        · exact w.delWait_ltb _ _
        · simp [hf]
      · rfl
  · rfl

theorem Work.hostWrote_ltb {w : Work} {l : Loc} (h : (w.st.loc l).locked = true) (was : LocRec) :
    (w.hostWrote l was).st.ltb = w.st.ltb := by
  unfold Work.hostWrote
  extract_lets r tested noticed
  have ht : tested.st.ltb = w.st.ltb := by
    unfold tested
    split
    · exact Work.retestFar_ltb h
    · rfl
  have hn : noticed.st.ltb = w.st.ltb := by
    unfold noticed
    split
    · exact ht
    · exact ht
  split
  · exact hn
  · exact hn

/-- R17: what SET-LOCATION of a locked location writes. -/
theorem Work.setLocation_loc {w : Work} {l : Loc} (hw : w.st.ltb.wf = true) (h : (w.st.loc l).locked = true) (o : Occ) :
    (w.setLocation l o).st.loc l = { occ := o, locked := true } := by
  have hs : (w.onState (fun s => s.setLoc l { s.loc l with occ := o })).st.loc l = { occ := o, locked := true } := by
    simp only [Work.onState_st]
    rw [State.setLoc_loc hw, if_pos rfl, h]
  have e := Work.hostWrote_ltb (w := w.onState (fun s => s.setLoc l { s.loc l with occ := o })) (l := l) (by rw [hs])
    (w.st.loc l)
  rw [← hs]
  exact congrArg (fun t => LocTable.get t l) e

/-- R17: the request is accepted under the conditions of the rule. -/
theorem State.checkSet_ok {s : State} {r : SetLocReq} {l : Loc} {o : Occ} (hl : s.checkLoc r.loc = .ok l)
    (ho : setOccOf r.occ r.tag = some o) (hk : (s.loc l).locked = true) (hc : s.writeConflict l = false) :
    s.checkSet (some r) = .ok (l, o) := by
  have ha : ∃ a, aisleNo? r.loc.aisle = some a := by
    unfold State.checkLoc at hl
    split at hl
    · cases hl
    · next a e => exact ⟨a, e⟩
  obtain ⟨a, ha⟩ := ha
  simp only [State.checkSet, needed, ha, ho, hl, hk, hc, Bind.bind, Except.bind]
  rfl

/-- R16, R17: a location without holder, whose FAR partner is free of jobs past READY, may be written. -/
theorem State.writeConflict_false {s : State} {l : Loc} (hh : (s.loc l).occ.holder = none)
    (hn : l.depth = .near → (∀ x h, (s.loc l.partner).occ ≠ .inbound x h) ∧
      ∀ x h j, (s.loc l.partner).occ = .outbound x h → s.job? h = some j → j.state = .waiting ∨ j.state = .ready) :
    s.writeConflict l = false := by
  unfold State.writeConflict
  rw [hh]
  by_cases hd : l.depth = .near
  · obtain ⟨hi, ho⟩ := hn hd
    cases hp : (s.loc l.partner).occ with
    | inbound x h => exact absurd hp (hi x h)
    | outbound x h =>
      cases hj : s.job? h with
      | none => simp [hj]
      | some j => rcases ho x h j hp hj with e | e <;> simp [hj, e, JobState.unstarted]
    | _ => simp
  · simp [hd]

/-! ## LOAD-LOCATIONS (R16) -/

/-- R16: entries are applied in order, so the last one for an address stands. -/
theorem State.setLocs_loc {s : State} (h : s.ltb.wf = true) (xs : List (Loc × LocRec)) (l : Loc) :
    (xs.foldl (fun s x => s.setLoc x.1 x.2) s).loc l =
      (((xs.filter (fun x => x.1 = l)).getLast?).map Prod.snd).getD (s.loc l) := by
  induction xs generalizing s with
  | nil => rfl
  | cons x xs ih =>
    rw [List.foldl_cons, ih (State.setLoc_wf x.1 x.2 h), State.setLoc_loc h]
    by_cases e : x.1 = l
    · rw [List.filter_cons_of_pos (by simpa using e), List.getLast?_cons, if_pos e.symm]
      cases (xs.filter (fun x => x.1 = l)).getLast? <;> rfl
    · rw [List.filter_cons_of_neg (by simpa using e), if_neg (fun h => e h.symm)]

/-- Entries written change the table alone. -/
theorem State.setLocs_eq (s : State) (xs : List (Loc × LocRec)) :
    ∃ ltb, xs.foldl (fun s x => s.setLoc x.1 x.2) s = { s with ltb := ltb } := by
  induction xs generalizing s with
  | nil => exact ⟨s.ltb, rfl⟩
  | cons x xs ih =>
    obtain ⟨ltb, e⟩ := ih (s.setLoc x.1 x.2)
    exact ⟨ltb, e⟩

/-- Work of a part without live jobs that waits for location-available notices of CLOSED aisles alone. -/
structure Work.Asleep (w : Work) : Prop where
  jobs : w.st.jtb.jobs = []
  evals : ∀ a ∈ w.evals, (w.st.aisle a).state = .closed
  ready : w.ready = []
  idle : w.idle = []
  marks : w.marks = []
  sweeps : w.sweeps = []
  claims : w.claimsDue = []
  starts : w.startsDue = []
  closes : w.closesDue = []
  release : w.releaseDue = false
  runs : w.runEnds = []
  ended : w.jobEnded = false

/-- Work with no notice left. -/
def Work.rested (w : Work) : Work :=
  { w with ready := [], idle := [], avail := [], marks := [], evals := [], sweeps := [], claimsDue := [], startsDue := [] }

namespace Work.Asleep

variable {w : Work}

theorem start {s : State} (h : s.jtb.jobs = []) : (Work.start s).Asleep :=
  ⟨h, by simp [Work.start], rfl, rfl, rfl, rfl, rfl, rfl, rfl, rfl, rfl, rfl⟩

theorem job (h : w.Asleep) (id : JobId) : w.st.job? id = none := by simp [State.job?, h.jobs]

theorem craneJob (h : w.Asleep) (c : CraneNo) : w.st.craneJob? c = none := by
  unfold State.craneJob?
  cases (w.st.crane c).job with
  | none => rfl
  | some id => exact h.job id

theorem noticeAvail (h : w.Asleep) {a : AisleNo} (ha : (w.st.aisle a).state = .closed) : (w.noticeAvail a).Asleep where
  jobs := h.jobs
  evals b hb := by
    rcases List.mem_append.1 hb with hb | hb
    · exact h.evals b hb
    · rw [List.mem_singleton.1 hb]; exact ha
  ready := h.ready
  idle := h.idle
  marks := h.marks
  sweeps := h.sweeps
  claims := h.claims
  starts := h.starts
  closes := h.closes
  release := h.release
  runs := h.runs
  ended := h.ended

theorem retestFar (h : w.Asleep) (near : Loc) : w.retestFar near = w := by
  unfold Work.retestFar
  split
  · next k _ => rw [h.job k]
  · rfl

theorem hostWrote (h : w.Asleep) {l : Loc} (hl : (w.st.aisle l.aisle).state = .closed) (was : LocRec) :
    (w.hostWrote l was).Asleep ∧ (w.hostWrote l was).st = w.st := by
  unfold Work.hostWrote
  extract_lets r tested noticed
  have ht : tested = w := by
    unfold tested
    rw [h.retestFar l, ite_self]
  have hn : noticed.Asleep ∧ noticed.st = w.st := by
    unfold noticed
    rw [ht]
    split
    · exact ⟨h.noticeAvail hl, rfl⟩
    · exact ⟨h, rfl⟩
  split
  · exact ⟨hn.1.noticeAvail (by rw [hn.2]; exact hl), hn.2⟩
  · exact hn

/-- Peers have no job to go on with. -/
theorem peers (h : w.Asleep) (n : Nat) : Work.peers (n + 1) w = { w with avail := [], marks := [] } := by
  have sleepers : ∀ (cs : List CraneNo) (u : Work), (∀ c, u.st.craneJob? c = none) →
      cs.foldl (Work.peer w.avail w.marks) u = u := by
    intro cs u hu
    induction cs with
    | nil => rfl
    | cons c cs ih =>
      have hp : Work.peer w.avail w.marks u c = u := by simp [Work.peer, h.marks, Work.retryPlace, hu]
      rw [List.foldl_cons, hp, ih]
  unfold Work.peers
  split
  · next he =>
    cases w
    simp only [List.isEmpty_iff] at he
    simp [he]
  · rw [sleepers _ { w with avail := [], marks := [] } h.craneJob]
    cases n <;> simp [Work.peers]

/-- No aisle that is OPEN has its turn. -/
theorem aisleTurn (h : w.Asleep) (u : Work) (hu : u.st = w.st) (a : AisleNo) :
    Work.aisleTurn w.idle w.ready w.evals w.sweeps u a = u := by
  unfold Work.aisleTurn
  split
  · next ho =>
    have he : w.evals.contains a = false := by
      rw [Bool.eq_false_iff]
      intro hc
      rw [hu, h.evals a (by simpa using hc)] at ho
      cases ho
    have hmem : a ∉ w.evals := by simpa using he
    simp [h.idle, h.sweeps, hmem]
  · rfl

theorem takeTurns (h : w.Asleep) : w.takeTurns = { w with idle := [], ready := [], evals := [], sweeps := [] } := by
  have turns : ∀ (as : List AisleNo) (u : Work), u.st = w.st →
      as.foldl (Work.aisleTurn w.idle w.ready w.evals w.sweeps) u = u := by
    intro as u hu
    induction as with
    | nil => rfl
    | cons a as ih => rw [List.foldl_cons, h.aisleTurn u hu a, ih]
  exact turns _ _ rfl

theorem passes (h : w.Asleep) : Work.passes passRounds w = w.rested := by
  have hc : w.takeClaims = { w with claimsDue := [] } := by simp [Work.takeClaims, h.claims]
  have h1 : Asleep { w with claimsDue := [], avail := [], marks := [] } :=
    ⟨h.jobs, h.evals, h.ready, h.idle, rfl, h.sweeps, rfl, h.starts, h.closes, h.release, h.runs, h.ended⟩
  have h2 : Asleep { w with claimsDue := [] } :=
    ⟨h.jobs, h.evals, h.ready, h.idle, h.marks, h.sweeps, rfl, h.starts, h.closes, h.release, h.runs, h.ended⟩
  have h3 : Asleep { w with claimsDue := [], avail := [], marks := [], startsDue := [] } :=
    ⟨h.jobs, h.evals, h.ready, h.idle, rfl, h.sweeps, rfl, rfl, h.closes, h.release, h.runs, h.ended⟩
  have hs : Work.takeStarts { w with claimsDue := [], avail := [], marks := [] } =
      { w with claimsDue := [], avail := [], marks := [], startsDue := [] } := by simp [Work.takeStarts, h.starts]
  have hq : w.rested.quiet = true := rfl
  have hr : Work.passes 7 w.rested = w.rested := by simp [Work.passes, hq]
  unfold passRounds Work.passes
  split
  · next hw =>
    cases w
    simp only [Work.quiet, Bool.and_eq_true, List.isEmpty_iff] at hw
    simp [Work.rested, hw]
  · simp only [hc, peerRounds, h2.peers, hs, h3.peers, h3.takeTurns]
    exact hr

/-- The end of such an event changes nothing. -/
theorem settle (h : w.Asleep) : w.settle.st = w.st := by
  have hr : w.rested.still := ⟨rfl, h.release, h.closes, h.runs, h.ended⟩
  have e : w.settle = w.rested.settle := by
    have hp : Work.passes passRounds w.rested = w.rested := by simp [passRounds, Work.passes, show w.rested.quiet = true from rfl]
    simp only [Work.settle, h.passes, hp]
  rw [e, Work.settle_still hr]
  rfl

end Work.Asleep

/-- The event of a request whose work sleeps: its reply is told, and nothing else happens. -/
theorem answerWith_asleep {r : Work × Answer} (h : r.1.Asleep) (hf : r.1.st.lineFed) (k : ReplyKind) (tag : FrameTag) :
    answerWith r k tag = r.1.st.replied (r.2.reply k tag) := by
  have ha : (r.1.onState (fun s => s.pushReply (r.2.reply k tag))).Asleep :=
    ⟨h.jobs, h.evals, h.ready, h.idle, h.marks, h.sweeps, h.claims, h.starts, h.closes, h.release, h.runs, h.ended⟩
  obtain ⟨e, hp⟩ := State.feed_pushReply hf (r.2.reply k tag)
  rw [answerWith, Work.finish]
  rcases Work.feed_cases (r.1.onState (fun s => s.pushReply (r.2.reply k tag))).settle with h1 | ⟨h1, h2, _⟩
  · rw [h1, ha.settle]; exact e
  · rw [ha.settle] at h1 h2
    rw [show ((r.1.onState (fun s => s.pushReply (r.2.reply k tag))).st.feed.hli.pause) = r.1.st.hli.pause from hp] at h2
    rw [show r.1.st.hli.pause = true from h1] at h2
    cases h2

/-- R16: an accepted request names locations of CLOSED aisles alone. -/
theorem State.checkLoad_closed {s : State} {r : LoadReq} {xs : List (Loc × LocRec)} (h : s.checkLoad r = .ok xs) :
    ∀ x ∈ xs, (s.aisle x.1.aisle).state = .closed := by
  unfold State.checkLoad at h
  split at h
  · cases h
  · split at h
    · cases h
    · split at h
      · cases h
      · cases hm : r.entries.mapM s.checkEntry with
        | error e => rw [hm] at h; cases h
        | ok ys =>
          rw [hm] at h
          simp only [Bind.bind, Except.bind] at h
          split at h
          · cases h
          · next hc =>
            split at h
            · cases h
            · cases h
              intro x hx
              refine Classical.byContradiction fun hn => hc ?_
              exact List.any_eq_true.2 ⟨x, hx, by simpa using hn⟩

/-- R16: what follows the entries changes nothing while no job is live. -/
theorem Work.loadLocations_asleep {s : State} {xs : List (Loc × LocRec)} (hj : s.jtb.jobs = [])
    (hx : ∀ x ∈ xs, (s.aisle x.1.aisle).state = .closed) :
    ((Work.start s).loadLocations xs).Asleep ∧
      ((Work.start s).loadLocations xs).st = xs.foldl (fun s x => s.setLoc x.1 x.2) s := by
  obtain ⟨ltb, e⟩ := s.setLocs_eq xs
  have wrote : ∀ (ys : List (Loc × LocRec)) (w : Work), w.Asleep → (∀ y ∈ ys, (w.st.aisle y.1.aisle).state = .closed) →
      (ys.foldl (fun w x => w.hostWrote x.1 x.2) w).Asleep ∧ (ys.foldl (fun w x => w.hostWrote x.1 x.2) w).st = w.st := by
    intro ys
    induction ys with
    | nil => exact fun w h _ => ⟨h, rfl⟩
    | cons y ys ih =>
      intro w h hy
      obtain ⟨h1, e1⟩ := h.hostWrote (hy y (by simp)) y.2
      obtain ⟨h2, e2⟩ := ih _ h1 (fun z hz => by rw [e1]; exact hy z (by simp [hz]))
      exact ⟨h2, e2.trans e1⟩
  unfold Work.loadLocations
  refine wrote _ _ ?_ ?_
  · exact Work.Asleep.start (s := xs.foldl (fun s x => s.setLoc x.1 x.2) s) (by rw [e]; exact hj)
  · intro y hy
    obtain ⟨x, hm, rfl⟩ := List.mem_map.1 hy
    simp only [Work.onState_st, Work.start_st, e]
    exact hx x hm

theorem State.setOccOf_of {r : SetLocReq} {o : Occ} (h : (r.occ = some .empty ∧ o = .empty) ∨
    (r.occ = some .full ∧ o = .full r.tag) ∨ (r.occ = some .unknown ∧ o = .unknown)) : setOccOf r.occ r.tag = some o := by
  rcases h with ⟨h, rfl⟩ | ⟨h, rfl⟩ | ⟨h, rfl⟩ <;> rw [h] <;> rfl

/-- Settles O29: SET-LOCATION leaves its location locked, so that nothing that follows writes it; LOAD-LOCATIONS without a live
job gives notices that find nothing to do. -/
theorem hostWritesReachTheTable : Obligations.HostWritesReachTheTable := by
  constructor
  · intro s tag r l o hm hw hl hk hh hn ho
    have hc := State.checkSet_ok hl (State.setOccOf_of ho) hk (State.writeConflict_false hh hn)
    have e : s.hand (.setLocation tag (some r)) = done ((Work.start s).setLocation l o) := by
      simp [State.hand, onSetLocation, hc, checked]
    have ht := (Work.Tame.refl (.start s)).setLocation l o
    have hs := Work.setLocation_loc (w := .start s) hw hk o
    refine ⟨_, exec_taken hm rfl, ?_⟩
    rw [e]
    refine ⟨answerWith_answers (r := done _) ht.toSteady _ _, ?_, fun x _ => ?_⟩
    · rw [← hs]
      refine Work.finish_loc (w := ((Work.start s).setLocation l o).onState _) (l := l) (.inr ?_)
      exact congrArg LocRec.locked hs
    · exact (answerWith_locked (done _) _ _ (ht.wf hw) x).trans (ht.locked hw x)
  · intro s tag r xs hm hf hw hj hc
    obtain ⟨ha, hs⟩ := Work.loadLocations_asleep hj (State.checkLoad_closed hc)
    obtain ⟨ltb, e⟩ := s.setLocs_eq xs
    have eh : s.hand (.loadLocations tag r) = done ((Work.start s).loadLocations xs) := by
      simp [State.hand, onLoadLocations, hc, checked]
    refine ⟨ltb, ?_, fun l => ?_⟩
    · have hl : ((Work.start s).loadLocations xs).st.lineFed := by rw [hs, e]; exact hf
      rw [exec_taken hm rfl, eh, answerWith_asleep (r := done ((Work.start s).loadLocations xs)) ha hl]
      simp only [done, hs, e]
      rfl
    · rw [← State.setLocs_loc hw xs l, e]
      rfl

end Sys2Proof.Machine
end

section
/-! SUPPORT. SET-PROFILE (R3, R55, R172, R173): what its checks let pass, and what it writes. -/

namespace Sys2Proof.Machine

/-- R172: the aisle and the profile of an accepted request: the values as clamped, and the double-deep field as given. -/
theorem State.checkProfile_ok {s : State} {r : ProfileReq} {a : AisleNo} {p : Profile}
    (h : s.checkProfile (some r) = .ok (a, p)) : p = clampProfile r.profile ∧ r.profile.doubleDeep.isSome = true := by
  unfold State.checkProfile at h
  simp only [needed, Bind.bind, Except.bind] at h
  split at h
  · cases h
  · split at h
    · cases h
    · split at h
      · cases h
      · next hok =>
        split at h
        · cases h
        · split at h
          · cases h
          · cases h
            have hk : profileOk r.profile = true := by simpa using hok
            refine ⟨rfl, ?_⟩
            simp_all [profileOk, profileInRange]

/-- R55: the role of a crane after SET-PROFILE. -/
theorem Crane.underProfile_role (x : Crane) (p : Profile) (c : CraneNo) :
    (x.underProfile p c).role = roleOf p.craneCount c := by
  unfold Crane.underProfile
  split
  · next e => rw [e]; rfl
  · rfl

theorem mem_cranesOf (c : CraneNo) (a : AisleNo) : c = frontOf a ∨ c = rearOf a ↔ aisleOf c = a := by
  revert c a; decide

theorem frontOf_ne_rearOf (a : AisleNo) : rearOf a ≠ frontOf a := by
  revert a; decide

/-- The table after SET-PROFILE (R3). -/
def State.profileTable (s : State) (a : AisleNo) (p : Profile) : LocTable :=
  if (s.aisle a).profile.any (fun old => old.sameGeometry p) then s.ltb else s.ltb.dropAisle a

/-- A link's proving ends where a crane is absent (R175). -/
def State.dropAbsentProving (s : State) (c : CraneNo) : State := if s.present c then s else s.setProving c .reset

/-- The aisle's profile and the table of SET-PROFILE. -/
def State.withProfile (s : State) (a : AisleNo) (p : Profile) : State :=
  { s.mapAisle a (fun x => { x with profile := some p }) with ltb := s.profileTable a p }

/-- What SET-PROFILE writes, as updates of the state: the profile, the table, the two cranes, and their proving. -/
theorem State.applyProfile_eq (s : State) (a : AisleNo) (p : Profile) : s.applyProfile a p =
    (((((s.withProfile a p).mapCrane (frontOf a) (fun x => x.underProfile p (frontOf a))).mapCrane
      (rearOf a) (fun x => x.underProfile p (rearOf a))).dropAbsentProving (frontOf a)).dropAbsentProving (rearOf a)) := by
  cases hk : (s.aisle a).profile.any (fun old => old.sameGeometry p) <;>
    simp only [State.applyProfile, State.withProfile, State.profileTable, hk] <;> rfl

theorem State.withProfile_aisle (s : State) (a : AisleNo) (p : Profile) (b : AisleNo) :
    (s.withProfile a p).aisle b = if b = a then { s.aisle a with profile := some p } else s.aisle b :=
  s.mapAisle_aisle a b (fun x => { x with profile := some p })

section
variable (s : State) (c : CraneNo)

@[simp] theorem State.dropAbsentProving_aisle (a : AisleNo) : (s.dropAbsentProving c).aisle a = s.aisle a := by
  unfold State.dropAbsentProving; split <;> rfl
@[simp] theorem State.dropAbsentProving_crane (d : CraneNo) : (s.dropAbsentProving c).crane d = s.crane d := by
  unfold State.dropAbsentProving; split <;> rfl
@[simp] theorem State.dropAbsentProving_ltb : (s.dropAbsentProving c).ltb = s.ltb := by
  unfold State.dropAbsentProving; split <;> rfl
@[simp] theorem State.dropAbsentProving_hli : (s.dropAbsentProving c).hli = s.hli := by
  unfold State.dropAbsentProving; split <;> rfl
@[simp] theorem State.dropAbsentProving_sent : (s.dropAbsentProving c).sent = s.sent := by
  unfold State.dropAbsentProving; split <;> rfl
@[simp] theorem State.dropAbsentProving_jtb : (s.dropAbsentProving c).jtb = s.jtb := by
  unfold State.dropAbsentProving; split <;> rfl
@[simp] theorem State.dropAbsentProving_rnu : (s.dropAbsentProving c).rnu = s.rnu := by
  unfold State.dropAbsentProving; split <;> rfl
@[simp] theorem State.dropAbsentProving_groups : (s.dropAbsentProving c).groups = s.groups := by
  unfold State.dropAbsentProving; split <;> rfl
@[simp] theorem State.dropAbsentProving_stu : (s.dropAbsentProving c).stu = s.stu := by
  unfold State.dropAbsentProving; split <;> rfl
end

/-- What SET-PROFILE leaves of the state, and the blocks that it does not touch. -/
structure State.Profiled (s t : State) (a : AisleNo) (p : Profile) : Prop where
  aisle : t.aisle a = { s.aisle a with profile := some p }
  aisles : ∀ b, b ≠ a → t.aisle b = s.aisle b
  role : ∀ c, aisleOf c = a → (t.crane c).role = roleOf p.craneCount c
  cranes : ∀ c, aisleOf c ≠ a → t.crane c = s.crane c
  ltb : t.ltb = s.profileTable a p
  jtb : t.jtb = s.jtb
  rnu : t.rnu = s.rnu
  groups : t.groups = s.groups
  stu : t.stu = s.stu

theorem State.applyProfile_profiled (s : State) (a : AisleNo) (p : Profile) : State.Profiled s (s.applyProfile a p) a p := by
  rw [State.applyProfile_eq]
  refine ⟨?_, fun b hb => ?_, fun c hc => ?_, fun c hc => ?_, ?_, ?_, ?_, ?_, ?_⟩
  · simp only [State.dropAbsentProving_aisle, State.mapCrane_aisle, State.withProfile_aisle, if_true]
  · simp only [State.dropAbsentProving_aisle, State.mapCrane_aisle, State.withProfile_aisle, if_neg hb]
  · simp only [State.dropAbsentProving_crane]
    rcases (mem_cranesOf c a).2 hc with rfl | rfl
    · rw [State.mapCrane_crane_other _ _ (frontOf_ne_rearOf a).symm, State.mapCrane_crane_same, Crane.underProfile_role]
    · rw [State.mapCrane_crane_same, Crane.underProfile_role]
  · simp only [State.dropAbsentProving_crane]
    rw [State.mapCrane_crane_other _ _ (fun e => hc ((mem_cranesOf c a).1 (.inr e))),
      State.mapCrane_crane_other _ _ (fun e => hc ((mem_cranesOf c a).1 (.inl e)))]
    rfl
  all_goals simp [State.withProfile]

theorem State.applyProfile_hli (s : State) (a : AisleNo) (p : Profile) :
    (s.applyProfile a p).hli = s.hli ∧ (s.applyProfile a p).sent = s.sent := by
  rw [State.applyProfile_eq]
  constructor <;> simp [State.withProfile]

/-- Two profiles of one geometry, field by field (R172). -/
theorem Profile.sameGeometry_iff (x y : Profile) : x.sameGeometry y = true ↔
    x.bays = y.bays ∧ x.levels = y.levels ∧ x.doubleDeep = y.doubleDeep ∧ x.craneCount = y.craneCount := by
  simp [Profile.sameGeometry, and_assoc]

/-- R3: the table is kept under a profile of the same geometry. -/
theorem State.profileTable_same {s : State} {a : AisleNo} {p old : Profile} (h : (s.aisle a).profile = some old)
    (hg : old.sameGeometry p = true) : s.profileTable a p = s.ltb := by
  simp [State.profileTable, h, hg]

/-- R3: the aisle's records are made anew at its first profile and at a change of its geometry. -/
theorem State.profileTable_new {s : State} {a : AisleNo} {p : Profile}
    (h : ∀ old, (s.aisle a).profile = some old → old.sameGeometry p = false) (l : Loc) :
    (s.profileTable a p).get l = if l.aisle = a then {} else s.loc l := by
  have hk : (s.aisle a).profile.any (fun old => old.sameGeometry p) = false := by
    cases hp : (s.aisle a).profile with
    | none => rfl
    | some old => exact h old hp
  rw [State.profileTable, hk]
  exact LocTable.get_dropAisle s.ltb a l

/-- The reply to a request is the only trace of its taking outside the host link and the log. -/
theorem State.replied_frame (s : State) (r : Reply) :
    ∃ h x, s.replied r = { s with hli := h, sent := x } := by
  unfold State.replied
  split
  · exact ⟨_, _, rfl⟩
  · exact ⟨_, _, rfl⟩

/-- The event of a request whose work has no notice: its reply is told. -/
theorem start_replied (s : State) (hf : s.lineFed) (k : RequestKind) (tag : FrameTag) :
    answerWith (done (.start s)) (.request k) tag = s.replied (plainReply k tag .done) := by
  obtain ⟨er, epause⟩ := State.feed_pushReply hf (plainReply k tag .done)
  refine (answerWith_still (r := done (.start s)) (Work.start_still s) (fun h => ?_)).trans er
  exact epause.trans h

theorem State.Profiled.replied {s t : State} {a : AisleNo} {p : Profile} (h : State.Profiled s t a p) (r : Reply) :
    State.Profiled s (t.replied r) a p := by
  obtain ⟨_, _, e⟩ := t.replied_frame r
  rw [e]
  exact ⟨h.aisle, h.aisles, h.role, h.cranes, h.ltb, h.jtb, h.rnu, h.groups, h.stu⟩

/-- Settles O30: the request's work has no notice, so its state is the profile's, with the reply told. -/
theorem setProfileWritesTheProfile : Obligations.SetProfileWritesTheProfile := by
  intro s tag r a p hm hf hc
  obtain ⟨hp, hd⟩ := State.checkProfile_ok hc
  have eh : s.hand (.setProfile tag (some r)) = done (.start (s.applyProfile a p)) := by
    simp [State.hand, onSetProfile, hc, checked]
  obtain ⟨ehli, esent⟩ := s.applyProfile_hli a p
  have hfed : (s.applyProfile a p).lineFed := by unfold State.lineFed; rw [ehli]; exact hf
  have e : answerWith (done (.start (s.applyProfile a p))) (.request .setProfile) tag =
      (s.applyProfile a p).replied (plainReply .setProfile tag .done) :=
    start_replied (s.applyProfile a p) hfed .setProfile tag
  have h := (s.applyProfile_profiled a p).replied (plainReply .setProfile tag .done)
  have hans : ((s.applyProfile a p).replied (plainReply .setProfile tag .done)).answers =
      s.answers ++ [plainReply .setProfile tag .done] := by
    rw [← (State.feed_pushReply hfed _).1, State.feed_answers, State.pushReply_answers]
    simp [State.answers, ehli, esent]
  refine ⟨_, by rw [exec_taken hm rfl, eh, e], hans, h.aisle, h.aisles, ?_, ?_, ?_, ?_, ?_, ?_, ?_, ?_, ?_, ?_, ?_, ?_, ?_, ?_,
    ?_, ?_, ?_, ?_, ?_, ?_, ?_, ?_, ?_, ?_, h.role, h.cranes, ?_, ?_, h.jtb, h.rnu, h.groups, h.stu⟩
  case refine_11 =>
    rw [hp]
    obtain ⟨d, hd⟩ := Option.isSome_iff_exists.1 hd
    simp [clampProfile, hd]
  case refine_25 =>
    intro old ho h1 h2 h3 h4
    rw [h.ltb]
    exact State.profileTable_same ho ((Profile.sameGeometry_iff old p).2 ⟨h1, h2, h3, h4⟩)
  case refine_26 =>
    intro hg l
    rw [State.loc, h.ltb]
    refine State.profileTable_new (fun old ho => ?_) l
    rw [Bool.eq_false_iff, Ne, Profile.sameGeometry_iff]
    rintro ⟨h1, h2, h3, h4⟩
    rcases hg with hn | ⟨old', ho', hg⟩
    · rw [hn] at ho; cases ho
    · rw [ho] at ho'
      cases ho'
      simp [h1, h2, h3, h4] at hg
  all_goals rw [hp]; rfl

end Sys2Proof.Machine
end

section
/-! SUPPORT. SUBMIT-JOB where a crane of another aisle holds the id of the job to be admitted. The statement puts no invariant
on the cranes, and such a crane takes the new job from READY to HAUL in the event of its admission. -/

namespace Sys2Proof.Machine
open Sys2Proof.Tests

/-- A location of the test aisle, in aisle 1. -/
def inAisle1 (l : Loc) : Loc := { l with aisle := 1 }

/-- A STORE of aisle 1, WAITING as position 2 of group 1. -/
def groupedStore : Job :=
  { store with id := 8, aisle := 1, dest := some (.loc (inAisle1 (near 6))), state := .waiting,
               waits := { group := true }, group := some (1, 2) }

/-- A crane that holds a CARRY for job 7, which is not live. -/
def strayCarrier : Crane := { idleCrane .front 0 with state := .reference, carryPending := true, job := some 7 }

/-- Aisle 0 CLOSED; aisle 1 OPEN with the stray carrier, an IDLE crane, and the job above, which position 1 of the group
holds back. -/
def strayCarry : State :=
  { State.reset with
    aisles := (State.reset.aisles.set 0 { Aisle.reset with profile := some prof }).set 1
      { Aisle.reset with state := .opened, profile := some prof, active := wheel0 }
    cranes := (State.reset.cranes.set 2 strayCarrier).set 3 (idleCrane .rear 11)
    groups := [{ id := 1, count := 2, window := 2, next := 1, positions := [.free, .known (some 8) 1 false] }]
    ltb := [(near 5, { occ := .full 5 }), (inAisle1 (near 6), { occ := .inbound 5 8 })]
    jtb := { State.reset.jtb with jobs := [groupedStore], queues := State.reset.jtb.queues.set 0 [8] } }

/-- A RETRIEVE of bay 5 of aisle 0 with id 7, position 1 of the group. -/
def strayAsked : JobBody :=
  { id := 7, kind := .retrieve, aisle := 0, queue := 0, urgency := 4, tag := 5, source := atBay 5 0,
    dest := ⟨2, 0, 0, 0, 0⟩, group := some (1, 1) }

/-- The job that the request asks for. -/
def strayJob : Job := strayAsked.toJob 0 0 (.loc (near 5)) .outfeed

theorem strayCarry_takes : strayCarry.mayTakeRequest = true ∧ strayCarry.ltb.wf = true ∧ (strayCarry.aisle 0).state ≠ .opened ∧
    parseJob strayAsked.bytes = some strayAsked := by decide +kernel

theorem strayCarry_checks : strayCarry.checkJob strayAsked.bytes = .ok (strayJob, {}) := ok_of (by decide +kernel)

/-- The admission of position 1 makes job 8 READY, its grant marks the IDLE crane, and the stray CARRY is tested again (R98). -/
theorem strayCarry_hauls : ((after (.submitJob 1 strayAsked.bytes) strayCarry).job? 7).map (fun k => (k.waits, k.state)) =
    some ({}, .haul) := by decide +kernel

theorem after_eq {c : Instr} {s t : State} (h : exec c s = .next t) : after c s = t := by simp [after, h]

/-- Refutes O20: the job of `strayCarry` has no wait reason, its aisle is CLOSED, and it is in HAUL, not READY. -/
theorem not_submitJobAdmits : ¬ Obligations.SubmitJobAdmits := by
  intro h
  obtain ⟨hm, hw, hc, hp⟩ := strayCarry_takes
  obtain ⟨t, k, ht, _, _, hk, _, _, _, _, _, shut⟩ := h strayCarry 1 strayAsked.bytes strayAsked strayJob {} hm hw hp strayCarry_checks
  obtain ⟨_, _, _, _, _, _, _, ready, _⟩ := shut hc
  have hauls := strayCarry_hauls
  rw [after_eq ht, show t.job? 7 = some k from hk] at hauls
  simp only [Option.map_some, Option.some.injEq, Prod.mk.injEq] at hauls
  have hr := (ready hauls.1).1
  rw [hauls.2] at hr
  cases hr

end Sys2Proof.Machine
end

section
/-! SUPPORT. A late PLACED OCCUPIED where a crane of another aisle holds the same job. The statement puts no invariant on the
cranes, and such a crane finds the job a new destination in the event of the report. -/

namespace Sys2Proof.Machine
open Sys2Proof.Tests

/-- A STORE STRANDED in PLACE at a FAR location, that waited there for a place. -/
def strandedStore : Job :=
  { store with dest := some (.loc (far 5)), state := .stranded .place, waits := { noPlace := true }, crane := some 0 }

/-- A RETRIEVE of aisle 1 that holds DEPTH. -/
def deepRetrieve : Job :=
  { retrieve with id := 8, aisle := 1, source := .loc (inAisle1 (near 2)), state := .waiting, waits := { depth := true } }

/-- The crane that has the STRANDED job. -/
def faultedPlacer : Crane :=
  { idleCrane .front 5 with state := .faulted, leg := some .atPlace, standing := some (.loc (far 5)), job := some 7 }

/-- A crane that waits for a place for the same job. -/
def strayPlacer : Crane :=
  { idleCrane .rear 8 with state := .place, leg := some .waiting, standing := some (.loc (inAisle1 (near 8))), job := some 7 }

/-- The STRANDED job's FAR location has its NEAR partner INBOUND under the job of aisle 1, which is OPEN and has an EMPTY lane,
an IDLE crane and the stray placer. -/
def strayPlace : State :=
  { State.reset with
    aisles := (State.reset.aisles.set 0 { Aisle.reset with profile := some prof }).set 1
      { Aisle.reset with state := .opened, profile := some prof, active := wheel0 }
    cranes := ((State.reset.cranes.set 0 faultedPlacer).set 2 (idleCrane .front 0)).set 3 strayPlacer
    ltb := [(near 5, { occ := .inbound 5 8 }), (far 5, { occ := .inbound 5 7 }),
      (inAisle1 (near 2), { occ := .outbound 5 8 }), (inAisle1 (near 6), { occ := .empty }),
      (inAisle1 (far 6), { occ := .empty })]
    jtb := { State.reset.jtb with
      jobs := [strandedStore, deepRetrieve], queues := State.reset.jtb.queues.set 0 [7, 8] } }

theorem strayPlace_late : (strayPlace.crane 0).role ≠ .absent ∧ (strayPlace.crane 0).state = .faulted ∧
    (strayPlace.crane 0).leg = some .atPlace ∧ (strayPlace.crane 0).standing = some (.loc (far 5)) ∧
    strayPlace.craneJob? 0 = some strandedStore ∧ (strayPlace.loc (far 5)).occ.holder = some 7 ∧
    strayPlace.ltb.wf = true := by decide +kernel

/-- The correction of the FAR location ends the DEPTH reason (R13), the grant of that job marks its crane, and the stray placer
retries (R78). -/
theorem strayPlace_placed : ((after (.placedOccupied 0) strayPlace).job? 7).map (fun k => (k.state, k.dest)) =
    some (.place, some (.loc (inAisle1 (far 6)))) := by decide +kernel

/-- Refutes O41, by its late form (R72): the STRANDED job of `strayPlace` is in PLACE after the event, with a destination. -/
theorem not_placedOccupiedKeepsTheLoad : ¬ Obligations.PlacedOccupiedKeepsTheLoad := by
  intro h
  obtain ⟨hrole, hstate, hleg, hstanding, hjob, hholder, hwf⟩ := strayPlace_late
  obtain ⟨t, k, ht, _, _, hk, hstranded, _⟩ :=
    h.2 strayPlace 0 strandedStore (far 5) hrole (.inl hstate) hleg hstanding hjob rfl hholder hwf
  have placed := strayPlace_placed
  rw [after_eq ht, show t.job? 7 = some k from hk] at placed
  simp only [Option.map_some, Option.some.injEq, Prod.mk.injEq] at placed
  rw [placed.1] at hstranded
  cases hstranded

end Sys2Proof.Machine
end

section
/-! SUPPORT. The travel estimator (R46–R52). Each quotient and root that is rounded up is given by the times it does not exceed
(`ceilDiv_le_iff`, `ceilSqrt_le_iff`), and so is the axis time in each of its branches; the axis time's bounds are then about
products of whole numbers. -/

namespace Sys2Proof.Machine

/-! ## Rounding up -/

theorem ceilDiv_le_iff {n d t : Nat} (hd : 0 < d) : ceilDiv n d ≤ t ↔ n ≤ t * d := by
  rw [ceilDiv, Nat.div_le_iff_le_mul hd]
  omega

/-- The quotient rounded up is a bound itself. -/
theorem le_ceilDiv_mul {d : Nat} (n : Nat) (hd : 0 < d) : n ≤ ceilDiv n d * d := (ceilDiv_le_iff hd).mp (Nat.le_refl _)

theorem rootBelow_sq_lt {q k r : Nat} (h : r * r < q) : rootBelow q k r * rootBelow q k r < q := by
  induction k generalizing r with
  | zero => exact h
  | succ k ih =>
    rw [rootBelow]
    split
    · next hbit => exact ih hbit
    · exact ih h

theorem le_succ_rootBelow_sq {q k r : Nat} (h : q ≤ (r + 2 ^ k) * (r + 2 ^ k)) :
    q ≤ (rootBelow q k r + 1) * (rootBelow q k r + 1) := by
  induction k generalizing r with
  | zero => exact h
  | succ k ih =>
    rw [rootBelow]
    split
    · exact ih (by rwa [Nat.add_assoc, ← Nat.two_mul, ← Nat.pow_succ'])
    · next hbit => exact ih (Nat.le_of_not_lt hbit)

theorem ceilSqrt_le_iff {q t : Nat} (hq : q ≤ 2 ^ 80) : ceilSqrt q ≤ t ↔ q ≤ t * t := by
  rcases Nat.eq_zero_or_pos q with rfl | hpos
  · simp [ceilSqrt]
  · have below : rootBelow q 40 0 * rootBelow q 40 0 < q := rootBelow_sq_lt (by simpa using hpos)
    have above := le_succ_rootBelow_sq (q := q) (k := 40) (r := 0) (by simpa using hq)
    rw [ceilSqrt, if_neg (Nat.ne_of_gt hpos)]
    constructor
    · intro ht
      exact Nat.le_trans above (Nat.mul_self_le_mul_self ht)
    · intro ht
      exact Nat.mul_self_lt_mul_self_iff.mp (Nat.lt_of_lt_of_le below ht)

/-! ## The branches of the axis time (R46) -/

/-- R172: the ranges that the profile allows the speed and the acceleration of an axis; the lower bound of the speed is the
y axis's. -/
structure AxisRange (v a : Nat) : Prop where
  speedLow : 200 ≤ v
  speedHigh : v ≤ 6000
  accelLow : 100 ≤ a
  accelHigh : a ≤ 2000

@[simp] theorem axisTime_zero (v a : Nat) : axisTime 0 v a = 0 := rfl

namespace AxisRange

variable {d v a t : Nat}

theorem speed_pos (h : AxisRange v a) : 0 < v := Nat.lt_of_lt_of_le (by decide) h.speedLow

theorem accel_pos (h : AxisRange v a) : 0 < a := Nat.lt_of_lt_of_le (by decide) h.accelLow

theorem speed_mul_accel_pos (h : AxisRange v a) : 0 < v * a :=
  Nat.mul_pos h.speed_pos h.accel_pos

theorem speed_sq_le (h : AxisRange v a) : v * v ≤ 36000000 := Nat.mul_le_mul h.speedHigh h.speedHigh

theorem ramp_le (h : AxisRange v a) : v * v / a ≤ 360000 :=
  calc v * v / a ≤ 36000000 / 100 := Nat.div_le_div h.speed_sq_le h.accelLow (by decide)
    _ = 360000 := rfl

theorem ramp_pos (h : AxisRange v a) : 1 ≤ v * v / a :=
  Nat.div_pos (Nat.le_trans h.accelHigh (Nat.le_trans (by decide) (Nat.mul_le_mul h.speedLow h.speedLow))) h.accel_pos

/-- The trapezoid branch: one division, rounded up. -/
theorem trapezoid_le_iff (h : AxisRange v a) (hd : 1 ≤ d) (hramp : v * v / a ≤ d) :
    axisTime d v a ≤ t ↔ 1000 * d * a + 1000 * (v * v) ≤ t * (v * a) := by
  rw [axisTime, if_neg (by omega), if_pos hramp, ceilDiv_le_iff h.speed_mul_accel_pos, Nat.mul_assoc 1000 v v]

/-- R46's bound of Q. -/
theorem triangle_quotient_lt (h : AxisRange v a) (hramp : d < v * v / a) : ceilDiv (4000000 * d) a < 14400000000 := by
  have hd : d < 360000 := Nat.lt_of_lt_of_le hramp h.ramp_le
  have hq : ceilDiv (4000000 * d) a ≤ 14399999999 := (ceilDiv_le_iff h.accel_pos).mpr
    (calc 4000000 * d ≤ 14399999999 * 100 := by omega
      _ ≤ 14399999999 * a := Nat.mul_le_mul_left _ h.accelLow)
  omega

/-- The triangle branch: the square root of Q, taken upward. -/
theorem triangle_le_iff_quotient (h : AxisRange v a) (hd : 1 ≤ d) (hramp : d < v * v / a) :
    axisTime d v a ≤ t ↔ ceilDiv (4000000 * d) a ≤ t * t := by
  have hq := h.triangle_quotient_lt hramp
  rw [axisTime, if_neg (by omega), if_neg (by omega), ceilSqrt_le_iff (by omega)]

/-- The two roundings of the triangle branch are one: the bounds of the time are those of the exact triangle time. -/
theorem triangle_le_iff (h : AxisRange v a) (hd : 1 ≤ d) (hramp : d < v * v / a) :
    axisTime d v a ≤ t ↔ 4000000 * d ≤ t * t * a := by
  rw [h.triangle_le_iff_quotient hd hramp, ceilDiv_le_iff h.accel_pos]

/-- R46: the triangle time is less than the exact time plus 1 ms. -/
theorem triangle_pred_lt (h : AxisRange v a) (hd : 1 ≤ d) (hramp : d < v * v / a) :
    (axisTime d v a - 1) * (axisTime d v a - 1) * a < 4000000 * d := by
  rcases Nat.eq_zero_or_pos (axisTime d v a) with hzero | hpos
  · simpa [hzero] using show 0 < d from hd
  · exact Nat.lt_of_not_le fun hlow =>
      Nat.not_le_of_lt (Nat.sub_one_lt_of_lt hpos) ((h.triangle_le_iff hd hramp).mpr hlow)

/-! ## At the ramp distance -/

/-- Where the acceleration divides the square of the speed, the trapezoid at the ramp distance is the exact triangle. -/
theorem ramp_time_le_iff (h : AxisRange v a) (hdvd : a ∣ v * v) :
    axisTime (v * v / a) v a ≤ t ↔ 2000 * v ≤ t * a := by
  have hsum : 1000 * (v * v / a) * a + 1000 * (v * v) = v * (2000 * v) := by
    rw [Nat.mul_assoc, Nat.div_mul_cancel hdvd]
    grind
  rw [h.trapezoid_le_iff h.ramp_pos (Nat.le_refl _), hsum, Nat.mul_left_comm t,
    Nat.mul_le_mul_left_iff h.speed_pos]

/-- The division of the ramp distance loses less than `a`, which is less than 5 ms of the time at 200 mm/s or more. -/
theorem ramp_time_gt (h : AxisRange v a) : 2000 * (v * v) < axisTime (v * v / a) v a * (v * a) + 5 * (v * a) := by
  have htime := (h.trapezoid_le_iff h.ramp_pos (Nat.le_refl (v * v / a))).mp (Nat.le_refl _)
  have hlost : v * v < v * v / a * a + a := Nat.lt_div_mul_add h.accel_pos
  have hspeed : 200 * a ≤ v * a := Nat.mul_le_mul_right a h.speedLow
  rw [Nat.mul_assoc 1000] at htime
  omega

/-! ## Farther points -/

theorem four_mul_le_sum_sq (x y : Nat) : 4 * x * y ≤ (x + y) * (x + y) := by
  rcases Nat.le_total x y with hxy | hxy
  · obtain ⟨k, rfl⟩ := Nat.exists_eq_add_of_le hxy
    calc 4 * x * (x + k) ≤ 4 * x * (x + k) + k * k := Nat.le_add_right _ _
      _ = (x + (x + k)) * (x + (x + k)) := by grind
  · obtain ⟨k, rfl⟩ := Nat.exists_eq_add_of_le hxy
    calc 4 * (y + k) * y ≤ 4 * (y + k) * y + k * k := Nat.le_add_right _ _
      _ = (y + k + y) * (y + k + y) := by grind

/-- The axis time is never less than the exact triangle time, in the trapezoid branch by the inequality of the means: the
square of `d × a + v²` is at least four times the product of the two terms. -/
theorem triangle_le_axisTime_sq (h : AxisRange v a) (hd : 1 ≤ d) :
    4000000 * d ≤ axisTime d v a * axisTime d v a * a := by
  rcases Nat.lt_or_ge d (v * v / a) with hramp | hramp
  · exact (h.triangle_le_iff hd hramp).mp (Nat.le_refl _)
  · have htime := (h.trapezoid_le_iff hd hramp).mp (Nat.le_refl _)
    have hpos : 0 < v * v * a := Nat.mul_pos (Nat.mul_pos h.speed_pos h.speed_pos) h.accel_pos
    refine Nat.le_of_mul_le_mul_right ?_ hpos
    calc 4000000 * d * (v * v * a)
        = 1000000 * (4 * (d * a) * (v * v)) := by grind
      _ ≤ 1000000 * ((d * a + v * v) * (d * a + v * v)) := Nat.mul_le_mul_left _ (four_mul_le_sum_sq (d * a) (v * v))
      _ = (1000 * d * a + 1000 * (v * v)) * (1000 * d * a + 1000 * (v * v)) := by grind
      _ ≤ (axisTime d v a * (v * a)) * (axisTime d v a * (v * a)) := Nat.mul_self_le_mul_self htime
      _ = axisTime d v a * axisTime d v a * a * (v * v * a) := by grind

/-- R46: the time does not decrease as the distance grows, also across the boundary between the branches. -/
theorem axisTime_mono (h : AxisRange v a) {d' : Nat} (hle : d ≤ d') : axisTime d v a ≤ axisTime d' v a := by
  rcases Nat.eq_zero_or_pos d with rfl | hd
  · simp
  · have hd' : 1 ≤ d' := Nat.le_trans hd hle
    rcases Nat.lt_or_ge d (v * v / a) with hramp | hramp
    · exact (h.triangle_le_iff hd hramp).mpr (Nat.le_trans (Nat.mul_le_mul_left _ hle) (h.triangle_le_axisTime_sq hd'))
    · have hgrow : 1000 * d * a ≤ 1000 * d' * a := Nat.mul_le_mul_right a (Nat.mul_le_mul_left 1000 hle)
      have htime := (h.trapezoid_le_iff hd' (Nat.le_trans hramp hle)).mp (Nat.le_refl _)
      exact (h.trapezoid_le_iff hd hramp).mpr (by omega)

/-- R46's bound of T: on the x axis, whose speed is at least 500 mm/s, no time exceeds 781,000 ms. -/
theorem axisTime_le (h : AxisRange v a) (hd : d ≤ 388000) (hv : 500 ≤ v) : axisTime d v a ≤ 781000 := by
  have hv' := h.speedHigh
  have ha := h.accelLow
  have hfar : v * v / a ≤ 388000 := Nat.le_trans h.ramp_le (by decide)
  refine Nat.le_trans (h.axisTime_mono hd) ((h.trapezoid_le_iff (by decide) hfar).mpr ?_)
  obtain ⟨w, rfl⟩ := Nat.exists_eq_add_of_le hv
  obtain ⟨b, rfl⟩ := Nat.exists_eq_add_of_le ha
  have hw : w * w ≤ 5500 * w := Nat.mul_le_mul_right w (by omega)
  calc 1000 * 388000 * (100 + b) + 1000 * ((500 + w) * (500 + w))
      = 39050000000 + 388000000 * b + 1000000 * w + 1000 * (w * w) := by grind
    _ ≤ 39050000000 + 390500000 * b + 78100000 * w + 781000 * (w * b) := by omega
    _ = 781000 * ((500 + w) * (100 + b)) := by grind

end AxisRange

/-- Settles O25. -/
theorem axisTimesRoundUpOnce : Obligations.AxisTimesRoundUpOnce := by
  refine ⟨fun d v a hv₀ hv₁ ha₀ ha₁ => ?_, fun _ _ _ => rfl⟩
  have h : AxisRange v a := ⟨hv₀, hv₁, ha₀, ha₁⟩
  refine ⟨axisTime_zero v a, fun hd hramp => ?_, fun hd hramp => ?_, fun hd hramp => ?_, fun hdvd => ?_, h.ramp_time_gt,
    fun _ => h.axisTime_mono, fun hd => ?_⟩
  · exact ⟨(h.trapezoid_le_iff hd hramp).mp (Nat.le_refl _), fun _ => (h.trapezoid_le_iff hd hramp).mpr⟩
  · have hdist : d < 360000 := Nat.lt_of_lt_of_le hramp h.ramp_le
    exact ⟨ceilDiv (4000000 * d) a, ⟨le_ceilDiv_mul _ h.accel_pos, fun _ => (ceilDiv_le_iff h.accel_pos).mpr⟩,
      (h.triangle_le_iff_quotient hd hramp).mp (Nat.le_refl _), fun _ => (h.triangle_le_iff_quotient hd hramp).mpr,
      by omega, h.triangle_quotient_lt hramp⟩
  · exact ⟨h.triangle_le_axisTime_sq hd, h.triangle_pred_lt hd hramp⟩
  · exact ⟨(h.ramp_time_le_iff hdvd).mp (Nat.le_refl _), fun _ => (h.ramp_time_le_iff hdvd).mpr⟩
  · exact ⟨Nat.mul_le_mul (Nat.mul_le_mul_left 1000 hd) ha₁, Nat.mul_le_mul_left 1000 h.speed_sq_le,
      Nat.mul_le_mul hv₁ ha₁, h.axisTime_le hd⟩

/-! ## Handling times (R48) -/

theorem handling_near {l : Loc} (p : Profile) (h : l.depth = .near) : handling p (.loc l) = p.forkNear := by
  simp only [handling, h]

theorem handling_far {l : Loc} (p : Profile) (h : l.depth = .far) : handling p (.loc l) = p.forkFar := by
  simp only [handling, h]

/-- R48: the handling time is of the depth alone. -/
theorem handling_congr {x y : Loc} (p : Profile) (h : x.depth = y.depth) : handling p (.loc x) = handling p (.loc y) := by
  simp only [handling, h]

/-- R48: the clamped FAR fork time. -/
theorem clampProfile_forkFar (r : RawProfile) :
    (clampProfile r).forkFar = if r.forkFar < r.forkNear then r.forkNear else r.forkFar := by
  rw [show (clampProfile r).forkFar = max r.forkFar r.forkNear from rfl]
  split
  · next hless => exact Nat.max_eq_right (Nat.le_of_lt hless)
  · next hless => exact Nat.max_eq_left (Nat.le_of_not_lt hless)

theorem clampProfile_forkNear_le_forkFar (r : RawProfile) : (clampProfile r).forkNear ≤ (clampProfile r).forkFar :=
  Nat.le_max_right _ _

/-- Settles O26, by the depth of the locations. -/
theorem handlingTimesFollowThePlace : Obligations.HandlingTimesFollowThePlace := by
  rintro r p rfl
  refine ⟨fun l hl => handling_near _ hl, fun l hl => ?_, rfl, rfl, fun x y => handling_congr _, fun x y hx => ?_⟩
  · rw [handling_far _ hl, clampProfile_forkFar]
  · rw [handling_near _ hx]
    cases hy : y.depth with
    | near => exact Nat.le_of_eq (handling_near _ hy).symm
    | far => rw [handling_far _ hy]; exact clampProfile_forkNear_le_forkFar r

/-! ## Estimates and motion limits (R47, R51, R52) -/

theorem saturate_le (t : Ms) : saturate t ≤ 600000 := Nat.min_le_right _ _

theorem saturate_eq_cap {t : Ms} (h : 600000 ≤ t) : saturate t = 600000 := Nat.min_eq_right h

/-- R52: an estimate from an unknown position is the cap, from a known one a saturated move. -/
theorem fromPosition_le (p : Profile) (pos : Option Point) (y : Point) : fromPosition p pos y ≤ 600000 := by
  cases pos with
  | none => exact Nat.le_refl _
  | some x => exact saturate_le (moveTime p x y)

theorem fromPosition_none (p : Profile) (y : Point) : fromPosition p none y = 600000 := rfl

/-- The lead of a cycle from an unknown position saturates the whole sum. -/
theorem cycleEstimate_none (p : Profile) (x y : Place) : cycleEstimate p none x y = 600000 := by
  have hlead : leadEstimate p none x = 600000 := fromPosition_none p _
  rw [cycleEstimate, hlead, Nat.add_assoc, Nat.add_assoc]
  exact saturate_eq_cap (Nat.le_add_right _ _)

/-- R51: the limit of an estimate, below the cap and above it. -/
theorem motionLimit_cases (p : Profile) (e : Ms) :
    (ceilDiv (e * (100 + p.overrunPercent)) 100 + p.overrunMargin ≤ 900000 →
      motionLimit p e = ceilDiv (e * (100 + p.overrunPercent)) 100 + p.overrunMargin) ∧
    (900000 < ceilDiv (e * (100 + p.overrunPercent)) 100 + p.overrunMargin → motionLimit p e = 900000) :=
  ⟨fun h => Nat.min_eq_left h, fun h => Nat.min_eq_right (Nat.le_of_lt h)⟩

/-- Settles O27. -/
theorem estimatesAndLimitsAreCapped : Obligations.EstimatesAndLimitsAreCapped := by
  intro p pos x y z r e
  refine ⟨⟨fromPosition_le p pos _, saturate_le _, saturate_le _, fromPosition_le p pos _, saturate_le _, saturate_le _⟩,
    ⟨fromPosition_none p _, fromPosition_none p _, cycleEstimate_none p x y⟩,
    ceilDiv (e * (100 + p.overrunPercent)) 100, ?_, fun m hm => ?_, motionLimit_cases p e⟩
  · rw [Nat.mul_comm 100]
    exact le_ceilDiv_mul _ (by decide)
  · exact (ceilDiv_le_iff (by decide)).mpr (by rwa [Nat.mul_comm m])

end Sys2Proof.Machine
end

section
/-! SUPPORT. CANCEL-JOB of a job in LEAD that names a crane in HOLD with another job. `State.railed` says what job each crane
serves, and not that a job in LEAD is served by the crane it names; the cancel of such a job ends the HOLD (R37) of a crane
that keeps its own job, so that an IDLE crane has a job. -/

namespace Sys2Proof.Machine
open Sys2Proof.Tests

/-- The job of the FRONT crane, which holds until the REAR crane has yielded. -/
def heldJob : Job := { retrieve with state := .lead, crane := some 0 }

/-- A job in LEAD that names the FRONT crane, which does not serve it. -/
def strayLead : Job := { heldJob with id := 8, source := .loc (near 6) }

/-- The FRONT crane at bay 0, in HOLD with the RETRIEVE from bay 5. -/
def holder : Crane := { idleCrane .front 0 with state := .hold, job := some 7, idleSince := none }

/-- The REAR crane, that yields from bay 7 to bay 8. -/
def yielder : Crane :=
  { idleCrane .rear 7 with state := .move, span := some (7, 8), move := some (.yielding, 8), idleSince := none,
                           motionDeadline := some 9000 }

/-- Aisle 0 OPEN with these cranes and jobs, and the cancel of the stray job at the front of the queue. -/
def strayHold : State :=
  { opened with
    cranes := (State.reset.cranes.set 0 holder).set 1 yielder
    ltb := [(near 5, { occ := .outbound 5 7 }), (near 6, { occ := .outbound 5 8 })]
    jtb := { State.reset.jtb with jobs := [heldJob, strayLead], queues := State.reset.jtb.queues.set 0 [7, 8] }
    pending := [.cancelJob 1 (some 8)] }

theorem strayHold_profiled : strayHold.profiled :=
  ⟨legal_profiles (by decide +kernel), by decide +kernel, by decide +kernel⟩

theorem strayHold_crane (c : CraneNo) : c = 0 ∨ c = 1 ∨ strayHold.crane c = Crane.reset := by
  revert c; decide +kernel

/-- No crane of `strayHold` has a job promised to it. -/
theorem strayHold_unpromised (c : CraneNo) : (strayHold.crane c).order = .none ∧ (strayHold.crane c).promised = none ∧
    strayHold.claimOf c = none := by
  revert c; decide +kernel

theorem strayHold_jobFits (c : CraneNo) : strayHold.jobFits c := by
  intro id h
  rcases strayHold_crane c with rfl | rfl | k
  · cases (h : some 7 = some id); exact ⟨heldJob, rfl, rfl, rfl⟩
  · cases (h : none = some id)
  · rw [k] at h; cases h

theorem strayHold_promiseFits (c : CraneNo) : strayHold.promiseFits c := by
  obtain ⟨hnone, hrest⟩ := strayHold_unpromised c
  rw [State.promiseFits, hnone]
  exact hrest

theorem strayHold_reachFits (c : CraneNo) : strayHold.reachFits c := by
  have spans : ((strayHold.crane c).span.all (fun x => decide (x.1 ≤ x.2) &&
      inReach (strayHold.craneProf c) (strayHold.crane c).role x.1 &&
      inReach (strayHold.craneProf c) (strayHold.crane c).role x.2)) = true := by
    revert c; decide +kernel
  rintro x (h | h)
  · simpa [h, and_assoc] using spans
  · rw [(strayHold_unpromised c).2.2] at h; cases h

/-- The HOLD waits for the yield to bay 8, from which the cycle span of bays 0 to 5 keeps the separation 3. -/
theorem strayHold_spanFits (c : CraneNo) : strayHold.spanFits c := by
  rcases strayHold_crane c with rfl | rfl | k
  · exact ⟨(0, 0), heldJob, .outfeed, 8, rfl, rfl, rfl, rfl, rfl, rfl, nofun, by decide +kernel⟩
  · exact ⟨(7, 8), (.yielding, 8), rfl, rfl, by unfold holdsBay; decide⟩
  · simp [State.spanFits, k, Crane.reset]

theorem strayHold_separated (c : CraneNo) (x y : Span) (hr : (strayHold.crane c).role = .front)
    (hx : strayHold.effectiveSpan c = some x) (hy : strayHold.effectiveSpan (other c) = some y) :
    x.2 + (strayHold.craneProf c).separation ≤ y.1 := by
  rcases strayHold_crane c with rfl | rfl | k
  · cases (hx : some (0, 0) = some x); cases (hy : some (7, 8) = some y); decide +kernel
  · cases (hr : Role.rear = .front)
  · rw [k] at hr; cases hr

theorem strayHold_railed : strayHold.railed := by
  have aisles : ∀ c, strayHold.aisleFits c := by unfold State.aisleFits; decide +kernel
  have jobs : (strayHold.jtb.jobs.map Job.id).Nodup ∧ (∀ j ∈ strayHold.jtb.jobs, j.dest ≠ some .infeed) ∧
      strayHold.blockedFits := by
    unfold State.blockedFits; decide +kernel
  obtain ⟨hids, hdests, hblocked⟩ := jobs
  exact ⟨fun c => ⟨strayHold_jobFits c, strayHold_promiseFits c, strayHold_reachFits c, strayHold_spanFits c, aisles c⟩,
    hids, hdests, hblocked, strayHold_separated⟩

/-- The step, in which CANCEL-JOB is answered CANCELLED: the FRONT crane is IDLE, with its job still. -/
theorem strayHold_cancelled : ∃ t, step strayHold = .next t ∧
    t.answers = [{ kind := .request .cancelJob, tag := 1, result := .cancelled, data := .none }] ∧
    (t.crane 0).state = .idle ∧ (t.crane 0).job = some 7 :=
  ⟨_, rfl, by decide +kernel⟩

/-- No state of a job goes with an IDLE crane. -/
theorem CraneState.idle_serves (st : JobState) : CraneState.idle.serves st = false := rfl

/-- Refutes O51, by its first part: after the step of `strayHold` the rails are not in order, since its FRONT crane is IDLE and
has a job. -/
theorem not_theRailKeepsTheSeparation : ¬ Obligations.TheRailKeepsTheSeparation := by
  intro h
  obtain ⟨t, ht, _, hidle, hjob⟩ := strayHold_cancelled
  have railed : t.railed := h.1 strayHold t strayHold_profiled strayHold_railed ht
  obtain ⟨fits, _, _, _⟩ := railed.1 0
  obtain ⟨j, _, _, serves⟩ := fits 7 hjob
  rw [hidle, CraneState.idle_serves] at serves
  cases serves

end Sys2Proof.Machine
end
